-- ==== Sys2Proof/Syntax.lean ====
section
/-!
DEFINITION. The fourteen commands of PI1E, one constructor per row of `spec/opcode_table.json`
(`30_encoding.md` R101). A command carries no operands (R100): every operand is a fixed register or buffer.
-/

namespace Sys2Proof

/-- A command, "the analogue of an instruction" (R21). -/
inductive Instr where
  /-- R250: nothing but the completion of R261. -/
  | nop
  /-- R162: the default palette. -/
  | defpal
  /-- R163: the median-cut palette of the source. -/
  | buildpal
  /-- R173: the palette of the PI1 input bytes. -/
  | extpal
  /-- R175: the custom palette. -/
  | setpal
  /-- R176: `encode` step (1), the choice among the four palettes. -/
  | selpal
  /-- R190: the source pixels into the working raster. -/
  | loadwork
  /-- R193: Floyd–Steinberg error diffusion over the working raster. -/
  | dither
  /-- R210: working raster to palette indices. -/
  | map
  /-- R214: palette indices to the PI1 bytes. -/
  | pack
  /-- R219: palette indices to the RGBA preview. -/
  | preview
  /-- R222: the whole conversion. -/
  | encode
  /-- R240: PI1 bytes to palette, indices and RGBA pixels. -/
  | decode
  /-- R251: return to the reset state. -/
  | reset
  deriving DecidableEq, Repr

end Sys2Proof
end

