-- ==== Sys2Proof/Word.lean ====
section
/-!
DEFINITION. The word types of PI1E (`00_scope.md` R13, R14, R19).
-/

namespace Sys2Proof

/-- R19 `Byte`: 0..255. -/
abbrev Byte := BitVec 8

/-- R13: a register is 32 bits wide. -/
abbrev Word := BitVec 32

/-- R19 `Word16`: the 16-bit AtariColorWord of R112. -/
abbrev Word16 := BitVec 16

/-- R19 `Idx`: a 4-bit palette index. -/
abbrev Idx := BitVec 4

/-- R19 `Q3`: a quantized channel, 0..7. -/
abbrev Q3 := BitVec 3

/-- R10 `Num`: the domain of a colour channel that is not a byte.
The rationals hold every value of both `NUMERIC` alternatives (log entry 15). -/
abbrev Num := Rat

/-- Three unsigned channel bytes in the order red, green, blue (R38, R110). -/
structure Rgb8 where
  r : Byte
  g : Byte
  b : Byte
  deriving DecidableEq, Repr

end Sys2Proof
end

