-- ==== Sys2Proof/WellFormed.lean ====
section
/-!
DEFINITION. The command word's format `C` (`30_encoding.md` R100) and the two checks R102 makes on it.
A command of `Instr` carries no operands, so what can be ill formed is a command WORD; whether a command is
well formed is asked of the word that encodes it (`Instr.wellFormed` in Decode.lean).
-/

namespace Sys2Proof

/-- R100: the two fields of a command word. -/
structure CmdWord where
  /-- bits 31:8, must be 0 -/
  zero   : BitVec 24
  /-- bits 7:0, selects the command -/
  opcode : BitVec 8
  deriving DecidableEq, Repr

/-- R100: the fields of a 32-bit value. -/
def CmdWord.ofWord (v : Word) : CmdWord :=
  { zero := v.extractLsb' 8 24, opcode := v.extractLsb' 0 8 }

/-- R100: the 32-bit value with these fields. -/
def CmdWord.toWord (c : CmdWord) : Word := c.zero ++ c.opcode

/-- R100: the ZERO field must be 0. -/
def CmdWord.zeroOk (c : CmdWord) : Bool := c.zero == 0

/-- R102: the opcodes 0x0D, 0x0E and 0x10 to 0xFF are reserved. -/
def CmdWord.opcodeOk (c : CmdWord) : Bool :=
  decide (c.opcode.toNat ≤ 0x0C) || c.opcode == 0x0F#8

/-- R102: a word is one of the 14 commands or reserved. -/
def CmdWord.wellFormed (c : CmdWord) : Bool := c.zeroOk && c.opcodeOk

end Sys2Proof
end

