-- ==== Sys2Proof/Decode.lean ====
section
/-!
DEFINITION. The decoder, total on the 2^32 command words (`30_encoding.md` R101, R102), and the encoder.
-/

namespace Sys2Proof

/-- Why a word is reserved (R102). -/
inductive DecodeError where
  /-- bits 31:8 are not 0 -/
  | zeroFieldNotZero
  /-- the opcode is 0x0D, 0x0E or 0x10 to 0xFF -/
  | reservedOpcode
  deriving DecidableEq, Repr

/-- R101: the opcode map. The match is the whole word, the mask 0xFFFFFFFF for every row. -/
def opcodeTable : List (Word × Instr) :=
  [(0x00000000#32, .nop), (0x00000001#32, .defpal), (0x00000002#32, .buildpal), (0x00000003#32, .extpal),
   (0x00000004#32, .setpal), (0x00000005#32, .selpal), (0x00000006#32, .loadwork), (0x00000007#32, .dither),
   (0x00000008#32, .map), (0x00000009#32, .pack), (0x0000000A#32, .preview), (0x0000000B#32, .encode),
   (0x0000000C#32, .decode), (0x0000000F#32, .reset)]

/-- R101, R102: a word is the command whose row it matches, or reserved, by name. -/
def decode (v : Word) : Except DecodeError Instr :=
  match opcodeTable.find? (fun row => row.1 == v) with
  | some row => .ok row.2
  | none => if (CmdWord.ofWord v).zeroOk then .error .reservedOpcode else .error .zeroFieldNotZero

/-- R101: the word of a command. -/
def encode : Instr → Word
  | .nop => 0x00000000#32
  | .defpal => 0x00000001#32
  | .buildpal => 0x00000002#32
  | .extpal => 0x00000003#32
  | .setpal => 0x00000004#32
  | .selpal => 0x00000005#32
  | .loadwork => 0x00000006#32
  | .dither => 0x00000007#32
  | .map => 0x00000008#32
  | .pack => 0x00000009#32
  | .preview => 0x0000000A#32
  | .encode => 0x0000000B#32
  | .decode => 0x0000000C#32
  | .reset => 0x0000000F#32

/-- A command is well formed when the word that encodes it is (R100, R102). -/
def Instr.wellFormed (i : Instr) : Bool := (CmdWord.ofWord (Sys2Proof.encode i)).wellFormed

/-- The host's question: what the decoder reads from a table row's bits. A command is one 32-bit value (R100):
`nbits` of at most 32 are given, the bits above them are 0, and a longer row is no command word. -/
def decodeTableWord (nbits w : Nat) : Option Instr :=
  if nbits ≤ 32 then
    match decode (BitVec.ofNat 32 (w % 2 ^ nbits)) with
    | .ok i => some i
    | .error _ => none
  else none

end Sys2Proof
end

