-- ==== Sys2Proof/Machine/Num.lean ====
section
/-!
DEFINITION. The numbers of the datapath (`00_scope.md` R10, R15 to R17, R19): the two values of the parameter
`NUMERIC` and their arithmetic, the rounding `rhu`, the clamp, a channel in 0..255, an RGB value.
-/

namespace Sys2Proof.Machine

/-- R10: the parameter `NUMERIC`. -/
inductive Numeric where
  /-- the reference value: exact rational arithmetic -/
  | exact
  /-- the open alternative: IEEE 754 double, each written operation rounded once, to nearest even (R148) -/
  | binary64
  deriving DecidableEq, Repr

/-- The nearest integer, a tie going to the even one (IEEE 754 round to nearest even, R10). -/
def roundHalfEven (q : Num) : Int :=
  if q - q.floor < 1 / 2 then q.floor
  else if 1 / 2 < q - q.floor then q.floor + 1
  else if q.floor % 2 = 0 then q.floor else q.floor + 1

/-- Two to an integer power. -/
def pow2 : Int → Num
  | .ofNat k => ((2 ^ k : Nat) : Num)
  | .negSucc k => 1 / ((2 ^ (k + 1) : Nat) : Num)

/-- The magnitude of a number. -/
def numAbs (q : Num) : Num := if q < 0 then -q else q

/-- The exponent of the last place of a 53-bit significand for the non-zero `q`, not below that of the subnormal
numbers. PRESUMED IEEE 754 binary64 (log entry 15). -/
def lastPlace (q : Num) : Int :=
  let l : Int := (q.num.natAbs.log2 : Int) - (q.den.log2 : Int)
  let e : Int := if numAbs q < pow2 l then l - 1 else l
  max (e - 52) (-1074)

/-- One IEEE 754 binary64 rounding, to nearest even, on the values PI1E can reach (log entry 15: no overflow). -/
def roundBinary64 (q : Num) : Num :=
  if q = 0 then 0 else (roundHalfEven (q / pow2 (lastPlace q)) : Num) * pow2 (lastPlace q)

/-- R10: the rounding that follows one written operation. -/
def Numeric.round : Numeric → Num → Num
  | .exact, q => q
  | .binary64, q => roundBinary64 q

/-- R10, R148: one written addition. -/
def Numeric.add (n : Numeric) (a b : Num) : Num := n.round (a + b)
/-- R10, R148: one written subtraction. -/
def Numeric.sub (n : Numeric) (a b : Num) : Num := n.round (a - b)
/-- R10, R148: one written multiplication. -/
def Numeric.mul (n : Numeric) (a b : Num) : Num := n.round (a * b)
/-- R10, R148: one written division. -/
def Numeric.div (n : Numeric) (a b : Num) : Num := n.round (a / b)

/-- R16, R148: `floor(v + 1/2)`, the addition being one operation of the numeric domain. -/
def Numeric.rhu (n : Numeric) (v : Num) : Int := (n.add v (1 / 2)).floor

/-- R17: `clamp(v, lo, hi) = min(hi, max(lo, v))`. -/
def clamp (v lo hi : Num) : Num := min hi (max lo v)

/-- A channel of PAL or WORK: a `Num` within 0..255 (R40, R111). The bound is part of the datum, so that the
range R149 relies on holds of every value there is (log entry 14). -/
structure Chan where
  val : Num
  lo  : 0 ≤ val
  hi  : val ≤ 255
  deriving DecidableEq, Repr

/-- R17: the channel `clamp(v, 0, 255)`. Only the ditherer's accumulation leaves 0..255 (R197); everywhere else
the spec shows the value in range (R149, R168, R171) and the clamp is the identity (log entry 14). -/
def Chan.clamp (v : Num) : Chan where
  val := Machine.clamp v 0 255
  lo := le_min (by norm_num) (le_max_left _ _)
  hi := min_le_left _ _

/-- R191: the conversion of a byte to `Num` is exact. -/
def Chan.ofByte (b : Byte) : Chan where
  val := (b.toNat : Num)
  lo := Nat.cast_nonneg _
  hi := by exact_mod_cast Nat.le_of_lt_succ b.isLt

/-- R18: the three channels `c.r`, `c.g`, `c.b` that `c[k]` selects. -/
inductive Channel where
  | r
  | g
  | b
  deriving DecidableEq, Repr

/-- R19, R111 `RGB`: a triple of `Num`. -/
structure RGB where
  r : Chan
  g : Chan
  b : Chan
  deriving DecidableEq, Repr

/-- R18: `c[k]`. -/
def RGB.get (c : RGB) : Channel → Chan
  | .r => c.r
  | .g => c.g
  | .b => c.b

/-- The RGB value with the given channels. -/
def RGB.ofFn (f : Channel → Chan) : RGB := ⟨f .r, f .g, f .b⟩

/-- Channel bytes as an RGB value, exactly (R191). -/
def RGB.ofRgb8 (c : Rgb8) : RGB := ⟨.ofByte c.r, .ofByte c.g, .ofByte c.b⟩

/-- R21: the anchor pure black. -/
def RGB.black : RGB := .ofRgb8 ⟨0, 0, 0⟩

/-- R21: the anchor pure white. -/
def RGB.white : RGB := .ofRgb8 ⟨255, 255, 255⟩

/-- The `n` values `f 0, f 1, ...` in order. -/
def tabulate {α : Type} (n : Nat) (f : Nat → α) : Vector α n :=
  ⟨⟨(List.range' 0 n).map f⟩, by simp⟩

/-- R39: a palette is 16 RGB values. -/
abbrev Palette := Vector RGB 16

/-- `P[k]` (R18). -/
def paletteEntry (P : Palette) (k : Idx) : RGB := P[k.toNat]'k.isLt

/-- The palette whose entry `i` is `f i`. -/
def paletteOf (f : Idx → RGB) : Palette := tabulate 16 fun i => f (BitVec.ofNat 4 i)

end Sys2Proof.Machine
end

