-- ==== Sys2Proof/Config.lean ====
section
/-!
DEFINITION. What the spec leaves open and the model does not choose: the free values, as constants without a body.
`NUMERIC` and `SRC_CAP` have reference values and stand, with `DEFAULT_PALETTE`, in the state's `params` block.
-/

namespace Sys2Proof

/-- A byte of SRC (`pi1 = false`) or PI1IN (`pi1 = true`) that nothing has written since the last reset: any value,
fixed and stable between resets (R51, R292, U10). Its arguments: the number of resets so far, the buffer, the offset. -/
opaque Config.resetByte (epoch : Nat) (pi1 : Bool) (offset : Nat) : Byte

/-- The channels of the default palette's entries 2 to 15, which the spec's source does not give (R11, R160, N1). -/
opaque Config.defaultChannel (entry : Nat) (channel : Machine.Channel) : Num

/-- R160: a value of `DEFAULT_PALETTE` about which nothing is known but the constraints (a), (b), (c): sixteen
entries, channels within 0..255, black first and white second. Constraint (d) "names no numbers". -/
def Config.defaultPalette : Machine.Palette :=
  Machine.paletteOf fun i =>
    if i = 0 then .black
    else if i = 1 then .white
    else .ofFn fun k => .clamp (Config.defaultChannel i.toNat k)

end Sys2Proof
end

