-- ==== Sys2Proof/Machine/State.lean ====
section
/-!
DEFINITION. The state of PI1E (`10_state.md` R30 to R51), the moves of its host (`20_memory.md` R71), the reasons
a move is refused, and the state after reset.
-/

namespace Sys2Proof.Machine

/-- R260: the error codes 1 to 5. -/
inductive ErrCode where
  /-- 1: IN_LEN is less than the command needs -/
  | shortInput
  /-- 2: the word written to CMD is reserved -/
  | badOpcode
  /-- 3: OPTIONS.DITHER_LEVEL is 11..15 -/
  | badOption
  /-- 4: the source does not fit SRC -/
  | capacity
  /-- 5: a hidden buffer the command reads has its valid flag 0 -/
  | uninit
  deriving DecidableEq, Repr

/-- R33: STATUS.STATE. ERRCODE is 0 unless STATE is ERROR, so the code stands in that case (log entry 12). -/
inductive EngineState where
  /-- 0: no command since reset -/
  | idle
  /-- 1: the last command completed -/
  | done
  /-- 2: the last command ended by `raise` -/
  | error (e : ErrCode)
  deriving DecidableEq, Repr

/-- R33: the STATUS register's fields. BUSY is always 0 and the reserved bits read as 0: neither has storage
(R85, U14). -/
structure Status where
  engine    : EngineState
  palValid  : Bool
  workValid : Bool
  idxValid  : Bool
  outValid  : Bool
  rgbaValid : Bool
  errSticky : Bool
  deriving DecidableEq, Repr

/-- R35: the OPTIONS register's fields; its reserved bits have no storage (U14). -/
structure Options where
  ditherLevel : BitVec 4
  useOpt      : Bool
  customValid : Bool
  srcIsPi1    : Bool
  deriving DecidableEq, Repr

/-- R47: the working raster: the dimensions LOADWORK latched and the elements, element `y*W + x` for pixel (x, y). -/
structure Work where
  w   : Word
  h   : Word
  pix : Array RGB
  deriving DecidableEq, Repr

/-- R48: the number of canvas pixels, 320 × 200. -/
abbrev canvasPixels : Nat := 64000

/-- R48: the index raster. -/
abbrev IdxRaster := Vector Idx 64000

/-- One byte buffer: (offset, byte) pairs, offsets strictly rising (`Memory.wf` in Ops.lean). An offset that is
not listed is one that nothing has written since reset; it has no byte of its own (log entry 6). -/
abbrev Memory := List Host.Cell

/-- R70: the four byte buffers. -/
inductive Space where
  | src
  | pi1in
  | out
  | rgbaout
  deriving DecidableEq, Repr

/-- R71: the moves of the host; R120 is their notation. -/
inductive HostMove where
  /-- `HostRegRead(n)` -/
  | regRead (n : Nat)
  /-- `HostRegWrite(n, v)`; register 0 is CMD and issues the command `v` (R32) -/
  | regWrite (n : Nat) (v : Word)
  /-- `HostRead(S, a)` -/
  | bufRead (space : Space) (offset : Nat)
  /-- `HostWrite(S, a, b)` -/
  | bufWrite (space : Space) (offset : Nat) (b : Byte)
  /-- the hardware reset input (R290, log entry 24) -/
  | hardReset
  deriving DecidableEq, Repr

/-- R302: what a host move gives back, "the value, or nothing". -/
inductive Answer where
  | nothing
  | word (v : Word)
  | byte (b : Byte)
  deriving DecidableEq, Repr

/-- The model's own record of the host (log entries 1, 2): the moves it has yet to make, in its order (R36, R81),
and what the last move gave back. No state of PI1E. -/
structure HostPort where
  script : List HostMove
  answer : Answer
  deriving DecidableEq, Repr

/-- R50: the parameters of the step relation. Not state: no step writes them (log entry 3). -/
structure Params where
  /-- R10 `NUMERIC` -/
  numeric        : Numeric
  /-- R12 `SRC_CAP`, the number of pixels SRC can hold -/
  srcCap         : Nat
  /-- R11, R160 `DEFAULT_PALETTE` -/
  defaultPalette : Palette
  deriving DecidableEq, Repr

/-- The whole machine. -/
structure State where
  /-- R50: parameters, read only (the model's own field, log entry 3) -/
  params  : Params
  /-- R33: register 1 -/
  status  : Status
  /-- R34: register 2, an Int32 -/
  width   : Word
  /-- R34: register 3, an Int32 -/
  height  : Word
  /-- R35: register 4 -/
  options : Options
  /-- R37: register 5, unsigned -/
  inLen   : Word
  /-- R38: registers 16 to 31 -/
  cpal    : Vector Rgb8 16
  /-- R39: the active palette, hidden -/
  pal     : Palette
  /-- R47: the working raster, hidden -/
  work    : Work
  /-- R48: the index raster, hidden -/
  idx     : IdxRaster
  /-- R42: the source raster, `4 * SRC_CAP` bytes -/
  src     : Memory
  /-- R43: the PI1 input, 32034 bytes -/
  pi1in   : Memory
  /-- R44: the PI1 image produced, 32034 bytes -/
  out     : Memory
  /-- R45: the RGBA raster, 256000 bytes -/
  rgbaout : Memory
  /-- how many resets there have been: what `Config.resetByte` is applied to (the model's own field, log entry 5) -/
  epoch   : Nat
  /-- the host's side (the model's own field, log entries 1, 2) -/
  host    : HostPort
  deriving DecidableEq, Repr

/-- Why the machine stops with a fault: it never does. Every error of PI1E is a code in STATUS after which the block
accepts the next command (R262, R267), so there is no constructor. -/
inductive Fault where
  deriving DecidableEq, Repr

/-- Why there is no move. -/
inductive Refusal where
  /-- Raised by `exec` for an instruction without a meaning; none is left. Safe. -/
  | notModelled (mnemonic : String)
  /-- Raised by a host register access with a number above 31, which "names nothing" (R71, U5). Safe. -/
  | noSuchRegister (n : Nat)
  /-- Raised by a host buffer access at or beyond the buffer's size, which "names nothing" (R71, U5). Safe. -/
  | noSuchOffset (space : Space) (offset : Nat)
  /-- Raised by a host read of OUT or RGBAOUT while nothing has written it: it "has no defined result and a model
  gives it no move" (R292, U3). Safe. -/
  | outputNeverWritten (space : Space)
  deriving DecidableEq, Repr

/-- R51, R291: STATUS = 0 after reset. -/
def Status.reset : Status :=
  { engine := .idle, palValid := false, workValid := false, idxValid := false, outValid := false,
    rgbaValid := false, errSticky := false }

/-- R35, R51: OPTIONS = 0x00000010 after reset. -/
def Options.reset : Options :=
  { ditherLevel := 0, useOpt := true, customValid := false, srcIsPi1 := false }

/-- The parameters of the machine of `State.reset`: the reference values of R10 and R12, and a default palette of
which only R160's constraints are known (log entries 3, 4). -/
def Params.reference : Params :=
  { numeric := .exact, srcCap := 64000, defaultPalette := Config.defaultPalette }

/-- R51: the machine right after reset. PAL, WORK and IDX hold the values log entries 7 to 9 name; no command and
no host move reads them while their valid flags are 0. -/
def State.reset : State :=
  { params := .reference
    status := .reset
    width := 0
    height := 0
    options := .reset
    inLen := 0
    cpal := Vector.replicate 16 ⟨0, 0, 0⟩
    pal := paletteOf fun _ => .black
    work := { w := 0, h := 0, pix := #[] }
    idx := Vector.replicate 64000 0
    src := []
    pi1in := []
    out := []
    rgbaout := []
    epoch := 0
    host := { script := [], answer := .nothing } }

end Sys2Proof.Machine
end

