-- ==== Sys2Proof/Machine/Flags.lean ====
section
/-!
DEFINITION. The register words: STATUS, its flags and codes (`10_state.md` R33, R41, `60_exceptions.md` R260),
OPTIONS (R35), a CPAL entry (R38). PI1E has no arithmetic condition codes (R41).
-/

namespace Sys2Proof.Machine

/-- R260: the code of an error. -/
def ErrCode.code : ErrCode → BitVec 8
  | .shortInput => 1
  | .badOpcode => 2
  | .badOption => 3
  | .capacity => 4
  | .uninit => 5

/-- R33: STATUS.STATE. -/
def EngineState.bits : EngineState → BitVec 2
  | .idle => 0
  | .done => 1
  | .error _ => 2

/-- R33: STATUS.ERRCODE, 0 when STATE is not ERROR. -/
def EngineState.errCode : EngineState → BitVec 8
  | .idle => 0
  | .done => 0
  | .error e => e.code

/-- A field's bits at bit position `at_` of a register word. -/
def fieldAt {w : Nat} (x : BitVec w) (at_ : Nat) : Word := x.setWidth 32 <<< at_

/-- R33: the STATUS register. BUSY (bit 7) and the reserved bits 31:17 are 0. -/
def Status.toWord (s : Status) : Word :=
  fieldAt s.engine.bits 0 ||| fieldAt (BitVec.ofBool s.palValid) 2 ||| fieldAt (BitVec.ofBool s.workValid) 3
    ||| fieldAt (BitVec.ofBool s.idxValid) 4 ||| fieldAt (BitVec.ofBool s.outValid) 5
    ||| fieldAt (BitVec.ofBool s.rgbaValid) 6 ||| fieldAt s.engine.errCode 8
    ||| fieldAt (BitVec.ofBool s.errSticky) 16

/-- R35: the OPTIONS register as a host reads it. -/
def Options.toWord (o : Options) : Word :=
  fieldAt o.ditherLevel 0 ||| fieldAt (BitVec.ofBool o.useOpt) 4 ||| fieldAt (BitVec.ofBool o.customValid) 5
    ||| fieldAt (BitVec.ofBool o.srcIsPi1) 6

/-- R35: what a host write stores in OPTIONS; written reserved bits are ignored. -/
def Options.ofWord (v : Word) : Options :=
  { ditherLevel := v.extractLsb' 0 4
    useOpt := v.getLsbD 4
    customValid := v.getLsbD 5
    srcIsPi1 := v.getLsbD 6 }

/-- R38: a CPAL register as a host reads it. -/
def cpalToWord (c : Rgb8) : Word := fieldAt c.r 16 ||| fieldAt c.g 8 ||| fieldAt c.b 0

/-- R38: what a host write stores in a CPAL register; written reserved bits are ignored. -/
def cpalOfWord (v : Word) : Rgb8 :=
  { r := v.extractLsb' 16 8, g := v.extractLsb' 8 8, b := v.extractLsb' 0 8 }

end Sys2Proof.Machine
end

