-- ==== Sys2Proof/Machine/Ops.lean ====
section
/-!
DEFINITION. The named operations over buffers and state: reading and writing a byte buffer, the writes a command
makes with their valid flags (`10_state.md` R41), ending a command by completion or by `raise`
(`60_exceptions.md` R261, R262), and reset (`70_reset_and_hazards.md` R290).
-/

namespace Sys2Proof.Machine

/-! ### Byte buffers -/

/-- The offsets are at least `lo` and strictly rising. -/
def Memory.risingFrom : Nat → Memory → Bool
  | _, [] => true
  | lo, (a, _) :: m => decide (lo ≤ a) && Memory.risingFrom (a + 1) m

/-- The canonical form of a buffer of `size` bytes: offsets strictly rising and within the buffer. -/
def Memory.wf (size : Nat) (m : Memory) : Bool :=
  Memory.risingFrom 0 m && m.all fun cell => decide (cell.1 < size)

/-- The byte last written at an offset, if anything has written it since reset. -/
def Memory.at? : Memory → Nat → Option Byte
  | [], _ => none
  | (k, b) :: m, a => if a = k then some b else Memory.at? m a

/-- Write one byte. -/
def Memory.put : Memory → Nat → Byte → Memory
  | [], a, b => [(a, b)]
  | (k, c) :: m, a, b =>
    if a < k then (a, b) :: (k, c) :: m
    else if a = k then (a, b) :: m
    else (k, c) :: Memory.put m a b

/-- A buffer of `size` bytes written as a whole: byte `a` is `f a`. -/
def Memory.full (size : Nat) (f : Nat → Byte) : Memory := (List.range' 0 size).map fun a => (a, f a)

/-- R42: SRC holds `4 * SRC_CAP` bytes; R43, R44, R45: the sizes of the others. -/
def spaceSize (p : Params) : Space → Nat
  | .src => 4 * p.srcCap
  | .pi1in => 32034
  | .out => 32034
  | .rgbaout => 256000

/-- `SRC[a]` (R18, R42). A byte nothing has written since reset is fixed and stable, and free (R292, U10). -/
def State.srcByte (s : State) (a : Nat) : Byte := (s.src.at? a).getD (Config.resetByte s.epoch false a)

/-- `PI1IN[a]` (R18, R43), likewise. -/
def State.pi1Byte (s : State) (a : Nat) : Byte := (s.pi1in.at? a).getD (Config.resetByte s.epoch true a)

/-- R18, R73: `MemRead(PI1IN, a, 2)`, the byte at offset `a` most significant. -/
def State.pi1Word (s : State) (a : Nat) : Word16 :=
  ((s.pi1Byte a).setWidth 16 <<< 8) ||| (s.pi1Byte (a + 1)).setWidth 16

/-- R73: byte 0 of a big-endian 16-bit word is the high one, byte 1 the low one. -/
def beByte (w : Word16) (i : Nat) : Byte := if i = 0 then w.extractLsb' 8 8 else w.extractLsb' 0 8

/-! ### What the engine writes, each with its valid flag (R41) -/

/-- PAL and PAL_VALID. -/
def State.setPal (s : State) (p : Palette) : State :=
  { s with pal := p, status := { s.status with palValid := true } }

/-- WORK and WORK_VALID. -/
def State.setWork (s : State) (w : Work) : State :=
  { s with work := w, status := { s.status with workValid := true } }

/-- IDX and IDX_VALID. -/
def State.setIdx (s : State) (x : IdxRaster) : State :=
  { s with idx := x, status := { s.status with idxValid := true } }

/-- OUT and OUT_VALID. -/
def State.setOut (s : State) (m : Memory) : State :=
  { s with out := m, status := { s.status with outValid := true } }

/-- RGBAOUT and RGBA_VALID. -/
def State.setRgba (s : State) (m : Memory) : State :=
  { s with rgbaout := m, status := { s.status with rgbaValid := true } }

/-! ### The end of a command -/

/-- R261: normal completion. STATE is DONE, ERRCODE 0; ERR_STICKY is not changed. -/
def State.complete (s : State) : State := { s with status := { s.status with engine := .done } }

/-- R262: `raise E`, error entry. STATE is ERROR, ERRCODE the code of `e`, ERR_STICKY 1; nothing else changes.
There is no handler, no vector, no saved state and no return (R267). -/
def State.raise (s : State) (e : ErrCode) : State :=
  { s with status := { s.status with engine := .error e, errSticky := true } }

/-- R290, R51: every piece of state into its reset value. The parameters and the host's side are no state of PI1E,
and the unspecified bytes of SRC and PI1IN are those of a new epoch (log entries 5, 11). -/
def State.resetMachine (s : State) : State :=
  { State.reset with params := s.params, epoch := s.epoch + 1, host := s.host }

/-- A command's pseudocode: the state its writes give, or the error it raises. -/
abbrev Body := State → Except ErrCode State

/-- One command's pseudocode after another's. -/
def Body.andThen (f g : Body) : Body := fun s =>
  match f s with
  | .ok t => g t
  | .error e => .error e

/-- The pseudocode that does nothing. -/
def Body.skip : Body := fun s => .ok s

/-- R261, R262: run a command's pseudocode as one indivisible step (R84). An error leaves the state the command
started from, but for STATUS. -/
def command (body : Body) (s : State) : Host.Outcome State Fault Refusal :=
  match body s with
  | .ok t => .next t.complete
  | .error e => .next (s.raise e)

end Sys2Proof.Machine
end

