-- ==== Sys2Proof/Machine/System.lean ====
section
/-!
DEFINITION. The system commands NOP and RESET (`45_system.md` R250, R251).
-/

namespace Sys2Proof.Machine

/-- NOP (R250): no effect besides the completion of R261. -/
def execNop (s : State) : Host.Outcome State Fault Refusal := command Body.skip s

/-- RESET (R251): every piece of state into its reset value. It does not end in DONE: STATE is IDLE. -/
def execReset (s : State) : Host.Outcome State Fault Refusal := .next s.resetMachine

end Sys2Proof.Machine
end

