-- ==== Sys2Proof/Machine/Operands.lean ====
section
/-!
DEFINITION. The implicit operands of the commands (`30_encoding.md` R100, R104): what a command takes from the
registers, the working raster, the index raster and the palette.
-/

namespace Sys2Proof.Machine

/-- The number of elements of a raster of these Int32 dimensions: none unless both are positive, the product taken
over the unbounded integers (R19, R34, R47). -/
def pixelCount (w h : Word) : Nat := w.toInt.toNat * h.toInt.toNat

/-- R260 ERR_CAPACITY: WIDTH > 0 and HEIGHT > 0 and WIDTH*HEIGHT > SRC_CAP. -/
def State.overCapacity (s : State) : Bool :=
  decide (0 < s.width.toInt ∧ 0 < s.height.toInt ∧ (s.params.srcCap : Int) < s.width.toInt * s.height.toInt)

/-- The colour bytes of source pixel `i` (R42). -/
def State.srcPixel (s : State) (i : Nat) : Rgb8 :=
  ⟨s.srcByte (4 * i), s.srcByte (4 * i + 1), s.srcByte (4 * i + 2)⟩

/-- The alpha byte of source pixel `i` (R42). -/
def State.srcAlpha (s : State) (i : Nat) : Byte := s.srcByte (4 * i + 3)

/-- R104, R194: `strength = DITHER_LEVEL / 10`. -/
def State.strength (s : State) : Num := s.params.numeric.div (s.options.ditherLevel.toNat : Num) 10

/-- `CPAL[i]` (R18, R38). -/
def State.cpalEntry (s : State) (i : Idx) : Rgb8 := s.cpal[i.toNat]'i.isLt

/-- `WORK[i]` (R47). Every element a command asks for exists when the raster has the number of elements its
dimensions give (`Work.wf`), as it does in every state a run reaches (log entry 18). -/
def workAt (pix : Array RGB) (i : Nat) : RGB := pix.getD i .black

/-- R47: the raster has `W*H` elements. -/
def Work.wf (k : Work) : Bool := k.pix.size == pixelCount k.w k.h

/-- `IDX[n]` (R48), for `n` below 64000 (log entry 22). -/
def idxAt (x : IdxRaster) (n : Nat) : Idx := if h : n < 64000 then x[n] else 0

end Sys2Proof.Machine
end

