-- ==== Sys2Proof/Machine/Color.lean ====
section
/-!
DEFINITION. The ColorModel datapath functions (`40_colormodel.md` R140 to R149), for either value of `NUMERIC`.
-/

namespace Sys2Proof.Machine

/-- R140: `rhu((v / 255) * 7)`, the number before it is given its three bits. -/
def quantizeLevel (n : Numeric) (v : Chan) : Int := n.rhu (n.mul (n.div v.val 255) 7)

/-- R140, R141: `quantizeChannel`, on 0..255, where the level is in 0..7 (log entries 14, 16). -/
def quantizeChannel (n : Numeric) (v : Chan) : Q3 := BitVec.ofInt 3 (quantizeLevel n v)

/-- R112: the word `(R << 8) | (G << 4) | B`. -/
def packWord (r g b : Q3) : Word16 :=
  (r.setWidth 16 <<< 8) ||| (g.setWidth 16 <<< 4) ||| b.setWidth 16

/-- R142: `rgbToAtariWord`. -/
def rgbToAtariWord (n : Numeric) (c : RGB) : Word16 :=
  packWord (quantizeChannel n c.r) (quantizeChannel n c.g) (quantizeChannel n c.b)

/-- R143: the channel `(q * 255) / 7`, not rounded to an integer. -/
def expandChannel (n : Numeric) (q : Q3) : Chan := .clamp (n.div (n.mul (q.toNat : Num) 255) 7)

/-- R143: `atariWordToRgb`; bits 15:11, 7 and 3 are ignored (R113). -/
def atariWordToRgb (n : Numeric) (w : Word16) : RGB :=
  ⟨expandChannel n (w.extractLsb' 8 3), expandChannel n (w.extractLsb' 4 3), expandChannel n (w.extractLsb' 0 3)⟩

/-- R171: `quantizeExpand`. -/
def quantizeExpand (n : Numeric) (c : RGB) : RGB := atariWordToRgb n (rgbToAtariWord n c)

/-- R145: one channel's squared difference. -/
def sqDiff (n : Numeric) (a b : Chan) : Num := n.mul (n.sub a.val b.val) (n.sub a.val b.val)

/-- R145: `dist2`, the squared Euclidean distance. -/
def dist2 (n : Numeric) (a b : RGB) : Num :=
  n.add (n.add (sqDiff n a.r b.r) (sqDiff n a.g b.g)) (sqDiff n a.b b.b)

/-- R146: the scan of `nearestColorIndex` over the entries still to come, strictly less being better. -/
def nearestScan (n : Numeric) (c : RGB) (P : Palette) : List Idx → Idx → Num → Idx
  | [], best, _ => best
  | i :: is, best, bestd =>
    if dist2 n c (paletteEntry P i) < bestd then nearestScan n c P is i (dist2 n c (paletteEntry P i))
    else nearestScan n c P is best bestd

/-- The palette indices 1 to 15 in order. -/
def laterEntries : List Idx := [1, 2, 3, 4, 5, 6, 7, 8, 9, 10, 11, 12, 13, 14, 15]

/-- R146: `nearestColorIndex`, the first minimum in palette order. -/
def nearestColorIndex (n : Numeric) (c : RGB) (P : Palette) : Idx :=
  nearestScan n c P laterEntries 0 (dist2 n c (paletteEntry P 0))

/-- R219, R245: a channel as a byte, `rhu(channel)`; in 0..255 since the channel is (log entry 16). -/
def channelByte (n : Numeric) (v : Chan) : Byte := BitVec.ofInt 8 (n.rhu v.val)

end Sys2Proof.Machine
end

