-- ==== Sys2Proof/Machine/Dither.lean ====
section
/-!
DEFINITION. The working raster and the error-diffusion ditherer: LOADWORK, DITHER (`42_dither.md` R190 to R200).
-/

namespace Sys2Proof.Machine

/-- R190: the source pixels as a working raster; alpha is dropped (R192). -/
def State.loadedWork (s : State) : Work :=
  { w := s.width
    h := s.height
    pix := ((List.range (pixelCount s.width s.height)).map fun i => RGB.ofRgb8 (s.srcPixel i)).toArray }

/-- R190, the pseudocode of LOADWORK. -/
def loadworkBody : Body := fun s =>
  if s.overCapacity then .error .capacity else .ok (s.setWork s.loadedWork)

/-- R193, R197: one share added to a channel, clamped at once; the share is `(e * n) / 16`. -/
def addShare (n : Numeric) (v : Chan) (e : Num) (share : Num) : Chan :=
  .clamp (n.add v.val (n.div (n.mul e share) 16))

/-- R193 `spread`, R198: a target outside the `W × H` raster gets nothing. -/
def spread (n : Numeric) (W H : Nat) (e : Channel → Num) (tx ty : Int) (share : Num) (pix : Array RGB) : Array RGB :=
  if 0 ≤ tx ∧ tx < W ∧ 0 ≤ ty ∧ ty < H then
    pix.setIfInBounds (ty * W + tx).toNat
      (.ofFn fun k => addShare n ((workAt pix (ty * W + tx).toNat).get k) (e k) share)
  else pix

/-- R193, R195: the per-channel error, old minus new, scaled by the strength. -/
def ditherError (n : Numeric) (strength : Num) (old new : RGB) (k : Channel) : Num :=
  n.mul (n.sub (old.get k).val (new.get k).val) strength

/-- R193: the four shares of the pixel at (x, y). -/
def spreadAll (n : Numeric) (W H : Nat) (e : Channel → Num) (x y : Int) (pix : Array RGB) : Array RGB :=
  spread n W H e (x + 1) (y + 1) 1
    (spread n W H e x (y + 1) 5
      (spread n W H e (x - 1) (y + 1) 3
        (spread n W H e (x + 1) y 7 pix)))

/-- R193, R195: the step at element `i`, pixel (i mod W, i div W): replace it by its nearest palette colour and
spread the error of the value it had accumulated. -/
def ditherPixel (n : Numeric) (P : Palette) (strength : Num) (W H : Nat) (pix : Array RGB) (i : Nat) : Array RGB :=
  let old := workAt pix i
  let new := paletteEntry P (nearestColorIndex n old P)
  spreadAll n W H (ditherError n strength old new) ((i % W : Nat) : Int) ((i / W : Nat) : Int)
    (pix.setIfInBounds i new)

/-- R193, R196: the ditherer, the elements in row-major order, each step on what the earlier ones left. -/
def ditherPixels (n : Numeric) (P : Palette) (strength : Num) (W H : Nat) (pix : Array RGB) : Array RGB :=
  (List.range (W * H)).foldl (ditherPixel n P strength W H) pix

/-- R193, R199 (e): WORK after DITHER, at its latched dimensions. -/
def State.ditheredWork (s : State) : Work :=
  { s.work with
    pix := ditherPixels s.params.numeric s.pal s.strength s.work.w.toInt.toNat s.work.h.toInt.toNat s.work.pix }

/-- R193, the pseudocode of DITHER. WORK_VALID is already 1. -/
def ditherBody : Body := fun s =>
  if 10 < s.options.ditherLevel.toNat then .error .badOption
  else if s.status.workValid = false ∨ s.status.palValid = false then .error .uninit
  else .ok (s.setWork s.ditheredWork)

/-- LOADWORK (R190). -/
def execLoadwork (s : State) : Host.Outcome State Fault Refusal := command loadworkBody s

/-- DITHER (R193). -/
def execDither (s : State) : Host.Outcome State Fault Refusal := command ditherBody s

end Sys2Proof.Machine
end

