-- ==== Sys2Proof/Machine/Quantizer.lean ====
section
/-!
DEFINITION. The median-cut colour quantizer (`41_palette.md` R164 to R171), step by step as HAT §9 asks.
A sample is its three channel bytes: as `Num` they are exact, and so are their order and their differences under
either `NUMERIC` (R191, log entry 21).
-/

namespace Sys2Proof.Machine

/-- R18: `c[k]` of a sample. -/
def sampleChannel (c : Rgb8) : Channel → Byte
  | .r => c.r
  | .g => c.g
  | .b => c.b

/-- R164: the sample set, a list in pixel order of the pixels with alpha > 128. -/
def State.samples (s : State) (w h : Word) : List Rgb8 :=
  (List.range (pixelCount w h)).filterMap fun i =>
    if 128 < (s.srcAlpha i).toNat then some (s.srcPixel i) else none

/-- R167 (a): the greatest value of channel `k` over `S`. -/
def channelMax (k : Channel) (S : List Rgb8) : Nat :=
  S.foldr (fun c m => max (sampleChannel c k).toNat m) 0

/-- R167 (a): the least value of channel `k` over `S`; no byte exceeds 255. -/
def channelMin (k : Channel) (S : List Rgb8) : Nat :=
  S.foldr (fun c m => min (sampleChannel c k).toNat m) 255

/-- R167 (a): the range of channel `k` over the non-empty `S`. -/
def channelRange (k : Channel) (S : List Rgb8) : Nat := channelMax k S - channelMin k S

/-- R167 (b): the widest channel, equal ranges preferring R over G over B. -/
def widestChannel (S : List Rgb8) : Channel :=
  if channelRange .g S ≤ channelRange .r S ∧ channelRange .b S ≤ channelRange .r S then .r
  else if channelRange .b S ≤ channelRange .g S then .g
  else .b

/-- Insert a sample before the first one whose channel `k` is not below its own. -/
def insertByChannel (k : Channel) (c : Rgb8) : List Rgb8 → List Rgb8
  | [] => [c]
  | d :: ds =>
    if (sampleChannel c k).toNat ≤ (sampleChannel d k).toNat then c :: d :: ds
    else d :: insertByChannel k c ds

/-- R167 (c): sorted ascending by channel `k` alone, stable. -/
def sortByChannel (k : Channel) : List Rgb8 → List Rgb8
  | [] => []
  | c :: cs => insertByChannel k c (sortByChannel k cs)

/-- R168: the sum of channel `k` in list order. -/
def channelSum (n : Numeric) (k : Channel) (S : List Rgb8) : Num :=
  S.foldl (fun acc c => n.add acc ((sampleChannel c k).toNat : Num)) 0

/-- R168: the mean of the non-empty `S`, not rounded, each channel between the least and the greatest sample. -/
def mean (n : Numeric) (S : List Rgb8) : RGB :=
  .ofFn fun k => .clamp (n.div (channelSum n k S) (S.length : Num))

/-- R166: `medianCut(S, d)`, the lower half first at every level. -/
def medianCut (n : Numeric) : Nat → List Rgb8 → List RGB
  | _, [] => []
  | 0, c :: cs => [mean n (c :: cs)]
  | d + 1, c :: cs =>
    medianCut n d ((sortByChannel (widestChannel (c :: cs)) (c :: cs)).take ((c :: cs).length / 2))
      ++ medianCut n d ((sortByChannel (widestChannel (c :: cs)) (c :: cs)).drop ((c :: cs).length / 2))

/-- R169: `fit16`, truncated to 16 or padded with the default entry of the same index. -/
def fit16 (dflt : Palette) (P : List RGB) : Palette :=
  paletteOf fun i => P.getD i.toNat (paletteEntry dflt i)

/-- Whether a colour is in a palette, by exact equality of all three channels (R170). -/
def hasColor (P : Palette) (c : RGB) : Bool := P.toList.any fun d => d == c

/-- R170: one of the two tests: overwrite entry `slot` if the anchor is nowhere in the palette. -/
def enforceAnchor (anchor : RGB) (slot : Idx) (P : Palette) : Palette :=
  if hasColor P anchor then P else paletteOf fun i => if i = slot then anchor else paletteEntry P i

/-- R170: `enforceAnchors`, black first, white on the list as the first test left it. -/
def enforceAnchors (P : Palette) : Palette := enforceAnchor .white 1 (enforceAnchor .black 0 P)

/-- R171: the final quantization. -/
def quantizePalette (n : Numeric) (P : Palette) : Palette := paletteOf fun i => quantizeExpand n (paletteEntry P i)

/-- R163, R165: the palette of a sample set; fewer than 16 samples give the default palette as it is. -/
def optimizedPalette (p : Params) (S : List Rgb8) : Palette :=
  if S.length < 16 then p.defaultPalette
  else quantizePalette p.numeric (enforceAnchors (fit16 p.defaultPalette (medianCut p.numeric 4 S)))

end Sys2Proof.Machine
end

