-- ==== Sys2Proof/Machine/Palette.lean ====
section
/-!
DEFINITION. The palette commands DEFPAL, BUILDPAL, EXTPAL, SETPAL, SELPAL (`41_palette.md` R162 to R177).
-/

namespace Sys2Proof.Machine

/-- R162, the pseudocode of DEFPAL. -/
def defpalBody : Body := fun s => .ok (s.setPal s.params.defaultPalette)

/-- R163, the pseudocode of BUILDPAL. -/
def buildpalBody : Body := fun s =>
  if s.overCapacity then .error .capacity
  else .ok (s.setPal (optimizedPalette s.params (s.samples s.width s.height)))

/-- R173, R241: the palette of the PI1 input bytes. -/
def State.extractedPalette (s : State) : Palette :=
  paletteOf fun i => atariWordToRgb s.params.numeric (s.pi1Word (2 + 2 * i.toNat))

/-- R173, the pseudocode of EXTPAL. -/
def extpalBody : Body := fun s =>
  if s.inLen.toNat < 34 then .error .shortInput
  else .ok (s.setPal s.extractedPalette)

/-- R175: the custom palette, not quantized. -/
def State.customPalette (s : State) : Palette := paletteOf fun i => .ofRgb8 (s.cpalEntry i)

/-- R175, the pseudocode of SETPAL. -/
def setpalBody : Body := fun s => .ok (s.setPal s.customPalette)

/-- R176, the pseudocode of SELPAL: custom over extracted over optimized over default. -/
def selpalBody : Body := fun s =>
  if s.options.customValid then setpalBody s
  else if s.options.srcIsPi1 then extpalBody s
  else if s.options.useOpt then buildpalBody s
  else defpalBody s

/-- DEFPAL (R162). -/
def execDefpal (s : State) : Host.Outcome State Fault Refusal := command defpalBody s

/-- BUILDPAL (R163). -/
def execBuildpal (s : State) : Host.Outcome State Fault Refusal := command buildpalBody s

/-- EXTPAL (R173). -/
def execExtpal (s : State) : Host.Outcome State Fault Refusal := command extpalBody s

/-- SETPAL (R175). -/
def execSetpal (s : State) : Host.Outcome State Fault Refusal := command setpalBody s

/-- SELPAL (R176). -/
def execSelpal (s : State) : Host.Outcome State Fault Refusal := command selpalBody s

end Sys2Proof.Machine
end

