-- ==== Sys2Proof/Machine/Pack.lean ====
section
/-!
DEFINITION. Index mapping, bitplane packing, preview and the whole conversion: MAP, PACK, PREVIEW, ENCODE
(`43_pack.md` R210 to R226).
-/

namespace Sys2Proof.Machine

/-- R210: the index of canvas pixel (x, y); R212: outside the source it is the number 0. -/
def mapIndex (n : Numeric) (k : Work) (P : Palette) (x y : Nat) : Idx :=
  if (x : Int) < k.w.toInt ∧ (y : Int) < k.h.toInt then
    nearestColorIndex n (workAt k.pix (y * k.w.toInt.toNat + x)) P
  else 0

/-- R210: the index raster of a working raster. -/
def State.mappedIdx (s : State) : IdxRaster :=
  tabulate canvasPixels fun i => mapIndex s.params.numeric s.work s.pal (i % 320) (i / 320)

/-- R210, the pseudocode of MAP. -/
def mapBody : Body := fun s =>
  if s.status.workValid = false ∨ s.status.palValid = false then .error .uninit
  else .ok (s.setIdx s.mappedIdx)

/-- R117: the offset, in the PI1 layout, of the byte that holds plane `p` of canvas pixel (x, y). -/
def planeOffset (p x y : Nat) : Nat := 34 + p * 8000 + y * 40 + x / 8

/-- R74, R117: the bit of that byte, most significant first. -/
def planeBit (x : Nat) : Nat := 7 - x % 8

/-- R215: byte `b` of row `y` of plane `p`, the or of the bits of its eight pixels. -/
def planeByte (x : IdxRaster) (p y b : Nat) : Byte :=
  (List.range 8).foldl
    (fun acc j => if (idxAt x (y * 320 + 8 * b + j)).getLsbD p then acc ||| (1#8 <<< (7 - j)) else acc) 0

/-- R214, R116: byte `a` of the PI1 image: the resolution word 0 (R216), the palette's colour words big-endian
(R216), the planes (R215). -/
def pi1FileByte (n : Numeric) (P : Palette) (x : IdxRaster) (a : Nat) : Byte :=
  if a < 2 then 0
  else if a < 34 then beByte (rgbToAtariWord n (paletteEntry P (BitVec.ofNat 4 ((a - 2) / 2)))) (a % 2)
  else planeByte x ((a - 34) / 8000) ((a - 34) % 8000 / 40) ((a - 34) % 40)

/-- R214: OUT after PACK, all 32034 bytes (R119). -/
def State.packedOut (s : State) : Memory := Memory.full 32034 (pi1FileByte s.params.numeric s.pal s.idx)

/-- R214, the pseudocode of PACK. -/
def packBody : Body := fun s =>
  if s.status.idxValid = false ∨ s.status.palValid = false then .error .uninit
  else .ok (s.setOut s.packedOut)

/-- R219, R245: byte `i` (red, green, blue, alpha) of a pixel of colour `c`; alpha is 255. -/
def rgbaByte (n : Numeric) (c : RGB) (i : Nat) : Byte :=
  if i = 0 then channelByte n c.r
  else if i = 1 then channelByte n c.g
  else if i = 2 then channelByte n c.b
  else 255

/-- R219, R245: RGBAOUT showing the indices `x` through the palette `P`, all 256000 bytes (R45). -/
def rgbaRaster (n : Numeric) (P : Palette) (x : IdxRaster) : Memory :=
  Memory.full 256000 fun a => rgbaByte n (paletteEntry P (idxAt x (a / 4))) (a % 4)

/-- R219, the pseudocode of PREVIEW. -/
def previewBody : Body := fun s =>
  if s.status.idxValid = false ∨ s.status.palValid = false then .error .uninit
  else .ok (s.setRgba (rgbaRaster s.params.numeric s.pal s.idx))

/-- R222: the step that runs the ditherer only if the level is above 0. -/
def ditherIfAsked : Body := fun s => if 0 < s.options.ditherLevel.toNat then ditherBody s else .ok s

/-- R222: `encode` steps (1) to (6). -/
def encodeSteps : Body :=
  Body.andThen selpalBody (Body.andThen loadworkBody (Body.andThen ditherIfAsked
    (Body.andThen mapBody (Body.andThen packBody previewBody))))

/-- R222, the pseudocode of ENCODE: all checks first (R223), then the steps. -/
def encodeBody : Body := fun s =>
  if 10 < s.options.ditherLevel.toNat then .error .badOption
  else if s.overCapacity then .error .capacity
  else if s.options.customValid = false ∧ s.options.srcIsPi1 = true ∧ s.inLen.toNat < 34 then .error .shortInput
  else encodeSteps s

/-- MAP (R210). -/
def execMap (s : State) : Host.Outcome State Fault Refusal := command mapBody s

/-- PACK (R214). -/
def execPack (s : State) : Host.Outcome State Fault Refusal := command packBody s

/-- PREVIEW (R219). -/
def execPreview (s : State) : Host.Outcome State Fault Refusal := command previewBody s

/-- ENCODE (R222). -/
def execEncode (s : State) : Host.Outcome State Fault Refusal := command encodeBody s

end Sys2Proof.Machine
end

