-- ==== Sys2Proof/Machine/Unpack.lean ====
section
/-!
DEFINITION. The unpacker: DECODE (`44_decode.md` R240 to R247).
-/

namespace Sys2Proof.Machine

/-- R244: the index of canvas pixel (x, y), read from the four planes. -/
def State.decodedIndex (s : State) (x y : Nat) : Idx :=
  (List.range 4).foldl
    (fun k p => if (s.pi1Byte (planeOffset p x y)).getLsbD (planeBit x) then k ||| (1#4 <<< p) else k) 0

/-- R240: the index raster of the PI1 input bytes. -/
def State.decodedIdx (s : State) : IdxRaster :=
  tabulate canvasPixels fun i => s.decodedIndex (i % 320) (i / 320)

/-- R240, the pseudocode of DECODE. -/
def decodeBody : Body := fun s =>
  if s.inLen.toNat < 32034 then .error .shortInput
  else .ok (((s.setPal s.extractedPalette).setIdx s.decodedIdx).setRgba
    (rgbaRaster s.params.numeric s.extractedPalette s.decodedIdx))

/-- DECODE (R240). -/
def execDecode (s : State) : Host.Outcome State Fault Refusal := command decodeBody s

end Sys2Proof.Machine
end

