-- ==== Sys2Proof/Machine/Dispatch.lean ====
section
/-!
DEFINITION. What each command does, one arm per command (`30_encoding.md` R101).
-/

namespace Sys2Proof.Machine

def exec (i : Instr) (s : State) : Host.Outcome State Fault Refusal :=
  match i with
  | .nop => Sys2Proof.Machine.execNop s
  | .defpal => Sys2Proof.Machine.execDefpal s
  | .buildpal => Sys2Proof.Machine.execBuildpal s
  | .extpal => Sys2Proof.Machine.execExtpal s
  | .setpal => Sys2Proof.Machine.execSetpal s
  | .selpal => Sys2Proof.Machine.execSelpal s
  | .loadwork => Sys2Proof.Machine.execLoadwork s
  | .dither => Sys2Proof.Machine.execDither s
  | .map => Sys2Proof.Machine.execMap s
  | .pack => Sys2Proof.Machine.execPack s
  | .preview => Sys2Proof.Machine.execPreview s
  | .encode => Sys2Proof.Machine.execEncode s
  | .decode => Sys2Proof.Machine.execDecode s
  | .reset => Sys2Proof.Machine.execReset s

end Sys2Proof.Machine
end

