-- ==== Sys2Proof/Machine/HostMoves.lean ====
section
/-!
DEFINITION. The host's moves (`20_memory.md` R71, R72, R78, `10_state.md` R31, R32): register and byte accesses,
the issue of a command by a write to CMD, the hardware reset input, and the taking of the next pending move.
-/

namespace Sys2Proof.Machine

/-- R32: a write of `v` to CMD issues the command `v`; a reserved word runs none and raises ERR_BAD_OPCODE (R102). -/
def issue (v : Word) (s : State) : Host.Outcome State Fault Refusal :=
  match decode v with
  | .ok i => exec i s
  | .error _ => .next (s.raise .badOpcode)

/-- R31, R72: `HostRegRead(n)`; no register above 31 exists. -/
def State.regRead? (s : State) (n : Nat) : Option Word :=
  if n = 0 then some 0
  else if n = 1 then some s.status.toWord
  else if n = 2 then some s.width
  else if n = 3 then some s.height
  else if n = 4 then some s.options.toWord
  else if n = 5 then some s.inLen
  else if n < 16 then some 0
  else if n < 32 then some (cpalToWord (s.cpalEntry (BitVec.ofNat 4 (n - 16))))
  else none

/-- R38: `CPAL[i] <- c`. -/
def State.setCpal (s : State) (i : Idx) (c : Rgb8) : State :=
  { s with cpal := s.cpal.set i.toNat c i.isLt }

/-- R31, R71, R72: `HostRegWrite(n, v)`. Writes to STATUS and to the reserved registers are ignored. -/
def hostRegWrite (n : Nat) (v : Word) (s : State) : Host.Outcome State Fault Refusal :=
  if n = 0 then issue v s
  else if n = 1 then .next s
  else if n = 2 then .next { s with width := v }
  else if n = 3 then .next { s with height := v }
  else if n = 4 then .next { s with options := .ofWord v }
  else if n = 5 then .next { s with inLen := v }
  else if n < 16 then .next s
  else if n < 32 then .next (s.setCpal (BitVec.ofNat 4 (n - 16)) (cpalOfWord v))
  else .refused (.noSuchRegister n)

/-- The byte a host read gives at an offset inside the buffer: OUT and RGBAOUT have none before their valid flag
is 1 (R292, U3). -/
def State.bufByte? (s : State) (S : Space) (a : Nat) : Option Byte :=
  match S with
  | .src => some (s.srcByte a)
  | .pi1in => some (s.pi1Byte a)
  | .out => if s.status.outValid then s.out.at? a else none
  | .rgbaout => if s.status.rgbaValid then s.rgbaout.at? a else none

/-- R71: `HostRead(S, a)`. -/
def hostBufRead (S : Space) (a : Nat) (s : State) : Host.Outcome State Fault Refusal :=
  if a < spaceSize s.params S then
    match s.bufByte? S a with
    | some b => .next { s with host := { s.host with answer := .byte b } }
    | none => .refused (.outputNeverWritten S)
  else .refused (.noSuchOffset S a)

/-- R71, R72: `HostWrite(S, a, b)`. A write to OUT or RGBAOUT is ignored (log entry 17). -/
def hostBufWrite (S : Space) (a : Nat) (b : Byte) (s : State) : Host.Outcome State Fault Refusal :=
  if a < spaceSize s.params S then
    match S with
    | .src => .next { s with src := s.src.put a b }
    | .pi1in => .next { s with pi1in := s.pi1in.put a b }
    | .out => .next s
    | .rgbaout => .next s
  else .refused (.noSuchOffset S a)

/-- R71: `HostRegRead(n)` as a move. -/
def hostRegRead (n : Nat) (s : State) : Host.Outcome State Fault Refusal :=
  match s.regRead? n with
  | some v => .next { s with host := { s.host with answer := .word v } }
  | none => .refused (.noSuchRegister n)

/-- R71: one host move. -/
def hostMove (m : HostMove) (s : State) : Host.Outcome State Fault Refusal :=
  match m with
  | .regRead n => hostRegRead n s
  | .regWrite n v => hostRegWrite n v s
  | .bufRead S a => hostBufRead S a s
  | .bufWrite S a b => hostBufWrite S a b s
  | .hardReset => .next s.resetMachine

/-- The state in which a pending move is made: it is no longer pending, and nothing has been given back for it. -/
def State.taking (s : State) (rest : List HostMove) : State := { s with host := { script := rest, answer := .nothing } }

/-- R36, R81: the next pending host move, made completely; with none pending the block is idle (R290, R301). -/
def hostStep (s : State) : Host.Outcome State Fault Refusal :=
  match s.host.script with
  | [] => .next s
  | m :: rest => hostMove m (s.taking rest)

/-- The state in which the host's next move is the write of `v` to CMD, its other moves coming after it. -/
def State.withCommand (s : State) (v : Word) : State :=
  { s with host := { s.host with script := .regWrite 0 v :: s.host.script } }

end Sys2Proof.Machine
end

