-- ==== Sys2Proof/Machine/Step.lean ====
section
/-!
DEFINITION. The step of the machine and the host's way of placing an instruction where it runs next.
-/

namespace Sys2Proof.Machine

/-- One step: the host's next move, a command when it writes CMD (R30, R81, R84; log entry 1). -/
def step (s : State) : Host.Outcome State Fault Refusal := hostStep s

/-- The state whose very next step runs the instruction with these bits: PI1E fetches nothing, so the host's next
move becomes the write of the word to CMD (R36; log entries 1, 23). -/
def State.withFetchWord (s : State) (nbits w : Nat) : State := s.withCommand (BitVec.ofNat 32 (w % 2 ^ nbits))

end Sys2Proof.Machine
end

