-- ==== Sys2Proof/Safety.lean ====
section
/-!
DEFINITION. The terms claims are made in: the invariant of the machine's states, what each command may change
(`20_memory.md` R88), what a command's result may depend on, and a run without an error (`60_exceptions.md` R266).
-/

namespace Sys2Proof.Machine

/-- R12, R160 (b), (c): what every value of the parameters satisfies (channels within 0..255 by their type). -/
def Params.ok (p : Params) : Bool :=
  decide (64000 ≤ p.srcCap) && decide (paletteEntry p.defaultPalette 0 = RGB.black)
    && decide (paletteEntry p.defaultPalette 1 = RGB.white)

/-- A buffer of `size` bytes with every byte written. -/
def Memory.complete (size : Nat) (m : Memory) : Bool := m.wf size && decide (m.length = size)

/-- The invariant: the parameters are legal, the buffers canonical and inside their spaces, WORK has the elements
its dimensions give (R47), an output is wholly written once its flag is 1 (R41, R119), IDLE means no command since
reset (R33), and ERROR implies ERR_STICKY (R262). -/
structure State.Inv (s : State) : Prop where
  params  : s.params.ok = true
  src     : s.src.wf (spaceSize s.params .src) = true
  pi1in   : s.pi1in.wf (spaceSize s.params .pi1in) = true
  out     : s.out.wf (spaceSize s.params .out) = true
  rgbaout : s.rgbaout.wf (spaceSize s.params .rgbaout) = true
  work    : s.work.wf = true
  outAll  : s.status.outValid = true → s.out.complete 32034 = true
  rgbaAll : s.status.rgbaValid = true → s.rgbaout.complete 256000 = true
  idle    : s.status.engine = .idle → s.status = .reset
  error   : ∀ e, s.status.engine = .error e → s.status.errSticky = true

/-- R266: no error has been raised since reset. -/
def State.clean (s : State) : Bool := !s.status.errSticky

/-- Which of the engine's five buffers a command writes. -/
structure Written where
  pal  : Bool
  work : Bool
  idx  : Bool
  out  : Bool
  rgba : Bool
  deriving DecidableEq, Repr

/-- R88: the write set of each command. RESET, which writes everything, is not asked of it. -/
def writeSet : Instr → Written
  | .nop => ⟨false, false, false, false, false⟩
  | .defpal => ⟨true, false, false, false, false⟩
  | .buildpal => ⟨true, false, false, false, false⟩
  | .extpal => ⟨true, false, false, false, false⟩
  | .setpal => ⟨true, false, false, false, false⟩
  | .selpal => ⟨true, false, false, false, false⟩
  | .loadwork => ⟨false, true, false, false, false⟩
  | .dither => ⟨false, true, false, false, false⟩
  | .map => ⟨false, false, true, false, false⟩
  | .pack => ⟨false, false, false, true, false⟩
  | .preview => ⟨false, false, false, false, true⟩
  | .encode => ⟨true, true, true, true, true⟩
  | .decode => ⟨true, false, true, false, true⟩
  | .reset => ⟨true, true, true, true, true⟩

/-- The host's registers, every byte of the input buffers, the parameters and the host's side are the same. -/
structure State.SameInputs (s t : State) : Prop where
  params  : t.params = s.params
  width   : t.width = s.width
  height  : t.height = s.height
  options : t.options = s.options
  inLen   : t.inLen = s.inLen
  cpal    : ∀ i, t.cpalEntry i = s.cpalEntry i
  src     : ∀ a, t.srcByte a = s.srcByte a
  pi1in   : ∀ a, t.pi1Byte a = s.pi1Byte a
  epoch   : t.epoch = s.epoch
  host    : t.host = s.host

/-- What a step from `s` to `t` with write set `w` leaves unchanged: the inputs, and each buffer outside `w` with
its valid flag, a byte buffer byte by byte. -/
structure State.Frame (w : Written) (s t : State) : Prop where
  inputs : s.SameInputs t
  pal    : w.pal = false → t.pal = s.pal ∧ t.status.palValid = s.status.palValid
  work   : w.work = false → t.work = s.work ∧ t.status.workValid = s.status.workValid
  idx    : w.idx = false → t.idx = s.idx ∧ t.status.idxValid = s.status.idxValid
  out    : w.out = false → (∀ a, t.out.at? a = s.out.at? a) ∧ t.status.outValid = s.status.outValid
  rgba   : w.rgba = false → (∀ a, t.rgbaout.at? a = s.rgbaout.at? a) ∧ t.status.rgbaValid = s.status.rgbaValid

/-- R261: STATE is DONE, ERRCODE 0 and ERR_STICKY as it was. -/
def State.Completed (s t : State) : Prop :=
  t.status.engine = .done ∧ t.status.engine.errCode = 0 ∧ t.status.errSticky = s.status.errSticky

/-- The states in which ENCODE passes its three checks (R222). -/
def State.encodeReady (s : State) : Bool :=
  decide (s.options.ditherLevel.toNat ≤ 10) && !s.overCapacity
    && (s.options.customValid || !s.options.srcIsPi1 || decide (34 ≤ s.inLen.toNat))

/-- The states in which the branch SELPAL takes raises nothing (R176). -/
def State.selpalReady (s : State) : Bool :=
  s.options.customValid
    || (if s.options.srcIsPi1 then decide (34 ≤ s.inLen.toNat) else !s.options.useOpt || !s.overCapacity)

/-- R260: whether the cause of an error holds for a command (a reserved word is no command, R102). -/
def cause (i : Instr) (s : State) (e : ErrCode) : Bool :=
  match e with
  | .badOpcode => false
  | .badOption =>
    match i with
    | .dither | .encode => decide (10 < s.options.ditherLevel.toNat)
    | .nop | .defpal | .buildpal | .extpal | .setpal | .selpal | .loadwork | .map | .pack | .preview | .decode
    | .reset => false
  | .capacity =>
    match i with
    | .buildpal | .loadwork | .encode => s.overCapacity
    | .selpal => !s.options.customValid && !s.options.srcIsPi1 && s.options.useOpt && s.overCapacity
    | .nop | .defpal | .extpal | .setpal | .dither | .map | .pack | .preview | .decode | .reset => false
  | .shortInput =>
    match i with
    | .decode => decide (s.inLen.toNat < 32034)
    | .extpal => decide (s.inLen.toNat < 34)
    | .selpal | .encode => !s.options.customValid && s.options.srcIsPi1 && decide (s.inLen.toNat < 34)
    | .nop | .defpal | .buildpal | .setpal | .loadwork | .dither | .map | .pack | .preview | .reset => false
  | .uninit =>
    match i with
    | .dither | .map => !s.status.workValid || !s.status.palValid
    | .pack | .preview => !s.status.idxValid || !s.status.palValid
    | .nop | .defpal | .buildpal | .extpal | .setpal | .selpal | .loadwork | .encode | .decode | .reset => false

/-- R265: the order of priority. -/
def errPriority : List ErrCode := [.badOpcode, .badOption, .capacity, .shortInput, .uninit]

/-- R265: the error reported, the first in the order whose cause holds. -/
def reported (i : Instr) (s : State) : Option ErrCode := errPriority.find? fun e => cause i s e

/-- One command after another: the second from the next state of the first. -/
def thenExec (o : Host.Outcome State Fault Refusal) (i : Instr) : Host.Outcome State Fault Refusal :=
  match o with
  | .next s => exec i s
  | .fault f => .fault f
  | .refused r => .refused r

/-- R224: the step commands whose effect ENCODE's equals. -/
def encodeByCommands (s : State) : Host.Outcome State Fault Refusal :=
  let loaded := thenExec (exec .selpal s) .loadwork
  let dithered := if 0 < s.options.ditherLevel.toNat then thenExec loaded .dither else loaded
  thenExec (thenExec (thenExec dithered .map) .pack) .preview

/-- R225 (b): the host has copied OUT to PI1IN and set IN_LEN to 32034. -/
def State.outCopiedToPi1in (s : State) : State := { s with pi1in := s.out, inLen := 32034#32 }

end Sys2Proof.Machine
end

