-- ==== Sys2Proof/Certificates/Slice0/Obligations.lean ====
section
/-!
DEFINITION. The statements for the provers, each from the spec's numbered rules.
-/

open Sys2Proof Sys2Proof.Machine

/-! ### Encoding -/

/-- R101: the fourteen words of the opcode map. -/
def Obligations.CommandWordsDecode : Prop :=
  decode 0x00000000#32 = .ok .nop ∧ decode 0x00000001#32 = .ok .defpal ∧ decode 0x00000002#32 = .ok .buildpal ∧
  decode 0x00000003#32 = .ok .extpal ∧ decode 0x00000004#32 = .ok .setpal ∧ decode 0x00000005#32 = .ok .selpal ∧
  decode 0x00000006#32 = .ok .loadwork ∧ decode 0x00000007#32 = .ok .dither ∧ decode 0x00000008#32 = .ok .map ∧
  decode 0x00000009#32 = .ok .pack ∧ decode 0x0000000A#32 = .ok .preview ∧ decode 0x0000000B#32 = .ok .encode ∧
  decode 0x0000000C#32 = .ok .decode ∧ decode 0x0000000F#32 = .ok .reset

/-- R101, R102: a word is a command exactly when it is that command's word, all 32 bits of it. -/
def Obligations.DecodeInvertsEncode : Prop :=
  ∀ (v : Word) (i : Instr), decode v = .ok i ↔ v = encode i

/-- R102: which words are reserved, and that writing one to CMD runs no command and raises ERR_BAD_OPCODE. -/
def Obligations.ReservedWordsRaise : Prop :=
  ∀ (v : Word) (s : State),
    ((∀ i, decode v ≠ .ok i) ↔
      (v.extractLsb' 8 24 ≠ 0 ∨ v.extractLsb' 0 8 = 0x0D#8 ∨ v.extractLsb' 0 8 = 0x0E#8 ∨
        0x10 ≤ (v.extractLsb' 0 8).toNat)) ∧
    ((∀ i, decode v ≠ .ok i) →
      hostRegWrite 0 v s =
        .next { s with status := { s.status with engine := .error .badOpcode, errSticky := true } })

/-- R32, R36, R71, R81: a step makes the next pending move, in the state in which that move is no longer pending and has
given nothing back (log entry 1), and what each move is: a register or byte access, RESET for the reset input, and for a
write to CMD the well-formed command its word decodes to, or ERR_BAD_OPCODE. -/
def Obligations.StepRunsDecodedCommand : Prop :=
  (∀ (s : State) (m : HostMove) (rest : List HostMove), s.host.script = m :: rest →
    step s = hostMove m { s with host := { script := rest, answer := .nothing } }) ∧
  (∀ s : State,
    (∀ n, hostMove (.regRead n) s = hostRegRead n s) ∧
    (∀ n v, hostMove (.regWrite n v) s = hostRegWrite n v s) ∧
    (∀ S a, hostMove (.bufRead S a) s = hostBufRead S a s) ∧
    (∀ S a b, hostMove (.bufWrite S a b) s = hostBufWrite S a b s) ∧
    hostMove .hardReset s = exec .reset s) ∧
  (∀ (s : State) (v : Word) (rest : List HostMove) (i : Instr),
    decode v = .ok i → i.wellFormed = true → s.host.script = .regWrite 0 v :: rest →
    step s = exec i { s with host := { script := rest, answer := .nothing } }) ∧
  (∀ (s : State) (v : Word) (rest : List HostMove),
    (∀ i, decode v ≠ .ok i) → s.host.script = .regWrite 0 v :: rest →
    step s = .next
      { s with
        host := { script := rest, answer := .nothing }
        status := { s.status with engine := .error .badOpcode, errSticky := true } })

/-- A placed command is what the next step runs (the model's choice of how a command is placed, log entry 1). -/
def Obligations.PlacedWordRunsNext : Prop :=
  ∀ (s : State) (i : Instr),
    step (s.withFetchWord 32 (encode i).toNat) = exec i { s with host := { s.host with answer := .nothing } }

/-- R290, R301: with no host move pending the engine is idle. -/
def Obligations.IdleStepChangesNothing : Prop :=
  ∀ s : State, s.host.script = [] → step s = .next s

/-! ### Reset -/

/-- R51: what reset leaves: every register as a host reads it, every STATUS field, input bytes a host can read, outputs
it cannot, and hidden state no command reads: each command that would read it raises ERR_UNINIT. -/
def Obligations.ResetRegisterValues : Prop :=
  (∀ n < 32, State.reset.regRead? n = some (if n = 4 then 0x00000010#32 else 0)) ∧
  State.reset.status.engine = .idle ∧ State.reset.status.palValid = false ∧
  State.reset.status.workValid = false ∧ State.reset.status.idxValid = false ∧
  State.reset.status.outValid = false ∧ State.reset.status.rgbaValid = false ∧
  State.reset.status.errSticky = false ∧
  (∀ a, (State.reset.bufByte? .src a).isSome = true ∧ (State.reset.bufByte? .pi1in a).isSome = true ∧
    State.reset.bufByte? .out a = none ∧ State.reset.bufByte? .rgbaout a = none) ∧
  (∀ i : Instr, i = .dither ∨ i = .map ∨ i = .pack ∨ i = .preview → ∃ t, exec i State.reset = .next t ∧
    t.status.engine = .error .uninit)

/-- R251: RESET ends with every register as reset leaves it, STATUS 0, IDLE and not DONE, the outputs unreadable, and
is the hardware reset. That it keeps the parameters and the host's side is the model's reading (log entry 11). -/
def Obligations.ResetCommandRestoresReset : Prop :=
  ∀ s : State, ∃ t, exec .reset s = .next t ∧ hostMove .hardReset s = .next t ∧
    (∀ n, t.regRead? n = State.reset.regRead? n) ∧ t.status = State.reset.status ∧
    t.status.toWord = 0 ∧ t.status.engine = .idle ∧ t.status.errSticky = false ∧
    (∀ a, t.bufByte? .out a = none ∧ t.bufByte? .rgbaout a = none) ∧ t.params = s.params ∧ t.host = s.host

/-- The invariant holds at reset (the default palette there is the model's, log entry 4). -/
def Obligations.ResetMeetsInvariant : Prop := State.reset.Inv

/-- Every step keeps the invariant. -/
def Obligations.StepKeepsInvariant : Prop :=
  ∀ s t : State, s.Inv → step s = .next t → t.Inv

/-- R50: no step writes a parameter. -/
def Obligations.StepKeepsParameters : Prop :=
  ∀ s t : State, step s = .next t → t.params = s.params

/-! ### How a command ends -/

/-- R23, R301: every command terminates in a next state, from every state. -/
def Obligations.EveryCommandAnswersNext : Prop :=
  ∀ (i : Instr) (s : State), ∃ t, exec i s = .next t

/-- R262: the state after a failed command differs from the state before it only in STATE, ERRCODE and ERR_STICKY. -/
def Obligations.FailedCommandChangesOnlyStatus : Prop :=
  ∀ (i : Instr) (s t : State) (e : ErrCode), exec i s = .next t → t.status.engine = .error e →
    t = { s with status := { s.status with engine := .error e, errSticky := true } } ∧
    t.status.engine.bits = 2 ∧ t.status.engine.errCode = e.code ∧ t.status.errSticky = true

/-- R261: a command that does not raise ends with STATE DONE and ERRCODE 0, ERR_STICKY as it was; RESET ends with
STATUS = 0. -/
def Obligations.CompletionStatus : Prop :=
  (∀ (i : Instr) (s t : State), i ≠ .reset → exec i s = .next t → (∀ e, t.status.engine ≠ .error e) →
    t.status.engine.bits = 1 ∧ t.status.engine.errCode = 0 ∧ t.status.errSticky = s.status.errSticky) ∧
  (∀ s : State, ∃ t, exec .reset s = .next t ∧ t.status.toWord = 0)

/-- R265: the error reported is the first, in the order of priority, whose cause (R260) holds; a reserved word is
not examined further. -/
def Obligations.ReportedErrorFollowsPriority : Prop :=
  (∀ (i : Instr) (s : State), i ≠ .reset → ∃ t, exec i s = .next t ∧
    t.status.engine = (match reported i s with | some e => .error e | none => .done)) ∧
  (∀ (v : Word) (s : State), (∀ i, decode v ≠ .ok i) → ∃ t, issue v s = .next t ∧ t.status.engine = .error .badOpcode)

/-- R266: ERR_STICKY, once set, is cleared only by the hardware reset or the RESET command, and every error sets it. -/
def Obligations.StickyClearedOnlyByReset : Prop :=
  (∀ (m : HostMove) (s t : State), hostMove m s = .next t → s.status.errSticky = true →
    (t.status.errSticky = false ↔ m = .hardReset ∨ ∃ v, m = .regWrite 0 v ∧ decode v = .ok .reset)) ∧
  (∀ (i : Instr) (s t : State) (e : ErrCode), exec i s = .next t → t.status.engine = .error e →
    t.status.errSticky = true)

/-- R41: a valid flag is set by every command that writes the buffer, it is cleared by nothing but a reset, and a
command that reads a hidden buffer whose flag is 0 raises ERR_UNINIT (DITHER at a level above 10 raises
ERR_BAD_OPTION first). -/
def Obligations.ValidFlagsClearedOnlyByReset : Prop :=
  (∀ (i : Instr) (s t : State), i ≠ .reset → exec i s = .next t → t.status.engine = .done →
    ((writeSet i).pal = true → t.status.palValid = true) ∧ ((writeSet i).work = true → t.status.workValid = true) ∧
    ((writeSet i).idx = true → t.status.idxValid = true) ∧ ((writeSet i).out = true → t.status.outValid = true) ∧
    ((writeSet i).rgba = true → t.status.rgbaValid = true)) ∧
  (∀ (m : HostMove) (s t : State), hostMove m s = .next t → m ≠ .hardReset →
    (∀ v, m = .regWrite 0 v → decode v ≠ .ok .reset) →
    (s.status.palValid = true → t.status.palValid = true) ∧ (s.status.workValid = true → t.status.workValid = true) ∧
    (s.status.idxValid = true → t.status.idxValid = true) ∧ (s.status.outValid = true → t.status.outValid = true) ∧
    (s.status.rgbaValid = true → t.status.rgbaValid = true)) ∧
  (∀ (i : Instr) (s : State),
    ((i = .dither ∨ i = .map) ∧ (s.status.workValid = false ∨ s.status.palValid = false)) ∨
      ((i = .pack ∨ i = .preview) ∧ (s.status.idxValid = false ∨ s.status.palValid = false)) →
    exec i s = .next (s.raise
      (if i = .dither ∧ 10 < s.options.ditherLevel.toNat then .badOption else .uninit)))

/-- R88: anything not listed in a command's write set is unchanged by it, byte by byte for the byte buffers. -/
def Obligations.CommandFrame : Prop :=
  ∀ (i : Instr) (s t : State), i ≠ .reset → exec i s = .next t → s.Frame (writeSet i) t

/-! ### Registers and host accesses -/

/-- R33, R260: the fields of STATUS as a host reads them; ERRCODE is 0 when STATE is not ERROR and the number R260 gives
the error when it is; STATE is never 3; the host cannot write it. -/
def Obligations.StatusWordLayout : Prop :=
  ∀ s : State, s.regRead? 1 = some s.status.toWord ∧ (∀ v, hostRegWrite 1 v s = .next s) ∧
    s.status.toWord.extractLsb' 0 2 = s.status.engine.bits ∧ s.status.engine.bits ≠ 3 ∧
    s.status.toWord.getLsbD 2 = s.status.palValid ∧ s.status.toWord.getLsbD 3 = s.status.workValid ∧
    s.status.toWord.getLsbD 4 = s.status.idxValid ∧ s.status.toWord.getLsbD 5 = s.status.outValid ∧
    s.status.toWord.getLsbD 6 = s.status.rgbaValid ∧ s.status.toWord.getLsbD 7 = false ∧
    s.status.toWord.extractLsb' 8 8 = s.status.engine.errCode ∧
    (s.status.engine.bits ≠ 2 → s.status.engine.errCode = 0) ∧
    (s.status.engine = .error .shortInput → s.status.toWord.extractLsb' 8 8 = 1#8) ∧
    (s.status.engine = .error .badOpcode → s.status.toWord.extractLsb' 8 8 = 2#8) ∧
    (s.status.engine = .error .badOption → s.status.toWord.extractLsb' 8 8 = 3#8) ∧
    (s.status.engine = .error .capacity → s.status.toWord.extractLsb' 8 8 = 4#8) ∧
    (s.status.engine = .error .uninit → s.status.toWord.extractLsb' 8 8 = 5#8) ∧
    s.status.toWord.getLsbD 16 = s.status.errSticky ∧ s.status.toWord.extractLsb' 17 15 = 0

/-- R72: writes to read-only registers, fields and outputs are ignored; CMD, reserved registers and reserved fields
read 0; no access but the write to CMD touches STATUS. -/
def Obligations.IgnoredHostAccesses : Prop :=
  ∀ s : State,
    (∀ n v, n = 1 ∨ (6 ≤ n ∧ n ≤ 15) → hostRegWrite n v s = .next s) ∧
    (∀ S a b, S = .out ∨ S = .rgbaout → a < spaceSize s.params S → hostBufWrite S a b s = .next s) ∧
    s.regRead? 0 = some 0 ∧ (∀ n, 6 ≤ n → n ≤ 15 → s.regRead? n = some 0) ∧
    (∀ v, s.regRead? 1 = some v → v.extractLsb' 17 15 = 0) ∧
    (∀ v, s.regRead? 4 = some v → v.extractLsb' 7 25 = 0) ∧
    (∀ n v, 16 ≤ n → n ≤ 31 → s.regRead? n = some v → v.extractLsb' 24 8 = 0) ∧
    (∀ v, hostRegWrite 4 v s = hostRegWrite 4 (v &&& 0x0000007F#32) s) ∧
    (∀ n v, 16 ≤ n → n ≤ 31 → hostRegWrite n v s = hostRegWrite n (v &&& 0x00FFFFFF#32) s) ∧
    (∀ n v t, n ≠ 0 → hostRegWrite n v s = .next t → t.status = s.status) ∧
    (∀ n t, hostRegRead n s = .next t → t.status = s.status)

/-- R31, R35, R38, R78: a register write is read back without its reserved bits, no other register changes, and
nothing else of the machine does. -/
def Obligations.RegisterWriteThenRead : Prop :=
  ∀ (s : State) (n : Nat) (v : Word), (2 ≤ n ∧ n ≤ 5) ∨ (16 ≤ n ∧ n ≤ 31) → ∃ t, hostRegWrite n v s = .next t ∧
    t.regRead? n = some (if n = 4 then v &&& 0x0000007F#32 else if 16 ≤ n then v &&& 0x00FFFFFF#32 else v) ∧
    (∀ m, m ≠ n → t.regRead? m = s.regRead? m) ∧
    t.params = s.params ∧ t.status = s.status ∧ t.pal = s.pal ∧ t.work = s.work ∧ t.idx = s.idx ∧
    (∀ S a, t.bufByte? S a = s.bufByte? S a) ∧ t.host = s.host

/-- R71: a register number above 31, or an offset at or beyond the buffer's size, names nothing: refused. -/
def Obligations.OutOfRangeAccessesRefused : Prop :=
  ∀ s : State,
    (∀ n v, 31 < n → hostRegRead n s = .refused (.noSuchRegister n) ∧
      hostRegWrite n v s = .refused (.noSuchRegister n)) ∧
    (∀ S a b, spaceSize s.params S ≤ a → hostBufRead S a s = .refused (.noSuchOffset S a) ∧
      hostBufWrite S a b s = .refused (.noSuchOffset S a)) ∧
    spaceSize s.params .src = 4 * s.params.srcCap ∧ spaceSize s.params .pi1in = 32034 ∧
    spaceSize s.params .out = 32034 ∧ spaceSize s.params .rgbaout = 256000

/-- R292, U3: a host read of OUT or RGBAOUT inside the buffer gives a byte once the flag is 1, and is refused before. -/
def Obligations.OutputReadNeedsValidFlag : Prop :=
  ∀ (s : State) (a : Nat), s.Inv →
    (a < 32034 → if s.status.outValid
      then ∃ b, s.out.at? a = some b ∧
        hostBufRead .out a s = .next { s with host := { s.host with answer := .byte b } }
      else hostBufRead .out a s = .refused (.outputNeverWritten .out)) ∧
    (a < 256000 → if s.status.rgbaValid
      then ∃ b, s.rgbaout.at? a = some b ∧
        hostBufRead .rgbaout a s = .next { s with host := { s.host with answer := .byte b } }
      else hostBufRead .rgbaout a s = .refused (.outputNeverWritten .rgbaout))

/-- R71, R78, R81: a byte written to SRC or PI1IN is the byte read there; every other byte of every buffer, every
register and all hidden state are as before. -/
def Obligations.ByteWriteThenRead : Prop :=
  ∀ (s : State) (S : Space) (a : Nat) (b : Byte), S = .src ∨ S = .pi1in → a < spaceSize s.params S →
    ∃ t, hostBufWrite S a b s = .next t ∧ t.bufByte? S a = some b ∧
      (∀ S' a', S' ≠ S ∨ a' ≠ a → t.bufByte? S' a' = s.bufByte? S' a') ∧
      (∀ n, t.regRead? n = s.regRead? n) ∧ t.params = s.params ∧ t.status = s.status ∧ t.pal = s.pal ∧
      t.work = s.work ∧ t.idx = s.idx ∧ t.host = s.host

/-- R78: a host read gives the value and changes nothing of the machine. -/
def Obligations.ReadsHaveNoSideEffect : Prop :=
  ∀ s : State,
    (∀ n v, s.regRead? n = some v →
      hostRegRead n s = .next { s with host := { s.host with answer := .word v } }) ∧
    (∀ S a b, a < spaceSize s.params S → s.bufByte? S a = some b →
      hostBufRead S a s = .next { s with host := { s.host with answer := .byte b } })

/-! ### The colour model -/

/-- R140, R141: for exact arithmetic the level is in 0..7, so the three bits hold it, and it exceeds `k` exactly from
`255*(2k+1)/14` on. -/
def Obligations.QuantizeThresholds : Prop :=
  ∀ v : Chan,
    ((quantizeChannel .exact v).toNat : Int) = ((v.val / 255) * 7 + 1 / 2 : Rat).floor ∧
    ∀ k : Nat, k < 7 → (k < (quantizeChannel .exact v).toNat ↔ (255 * (2 * k + 1) / 14 : Rat) ≤ v.val)

/-- R112: the layout of every word the engine produces, and the five named colours. -/
def Obligations.ColourWordLayout : Prop :=
  (∀ (n : Numeric) (c : RGB), rgbToAtariWord n c &&& 0xF888#16 = 0 ∧
    (rgbToAtariWord n c).extractLsb' 8 3 = quantizeChannel n c.r ∧
    (rgbToAtariWord n c).extractLsb' 4 3 = quantizeChannel n c.g ∧
    (rgbToAtariWord n c).extractLsb' 0 3 = quantizeChannel n c.b) ∧
  (∀ n : Numeric, rgbToAtariWord n .white = 0x0777#16 ∧ rgbToAtariWord n .black = 0x0000#16 ∧
    rgbToAtariWord n (.ofRgb8 ⟨255, 0, 0⟩) = 0x0700#16 ∧ rgbToAtariWord n (.ofRgb8 ⟨0, 255, 0⟩) = 0x0070#16 ∧
    rgbToAtariWord n (.ofRgb8 ⟨0, 0, 255⟩) = 0x0007#16)

/-- R143: each channel is `(q * 255) / 7`, in that order of operations and not rounded to an integer, and bits 15:11,
7 and 3 of the word are ignored. -/
def Obligations.ColourWordExpansion : Prop :=
  ∀ (n : Numeric) (w : Word16),
    (atariWordToRgb n w).r.val = n.div (n.mul ((w.extractLsb' 8 3).toNat : Rat) 255) 7 ∧
    (atariWordToRgb n w).g.val = n.div (n.mul ((w.extractLsb' 4 3).toNat : Rat) 255) 7 ∧
    (atariWordToRgb n w).b.val = n.div (n.mul ((w.extractLsb' 0 3).toNat : Rat) 255) 7 ∧
    atariWordToRgb n w = atariWordToRgb n (w &&& 0x0777#16)

/-- R144: the round-trip laws of the colour words, under either `NUMERIC` (for exact arithmetic the channel is
`quantizeChannel * 255 / 7`). -/
def Obligations.QuantizeExpandRoundTrip : Prop :=
  (∀ (c : RGB) (k : Channel),
    ((atariWordToRgb .exact (rgbToAtariWord .exact c)).get k).val =
      ((quantizeChannel .exact (c.get k)).toNat : Rat) * 255 / 7) ∧
  (∀ (n : Numeric) (c : RGB) (k : Channel),
    ((atariWordToRgb n (rgbToAtariWord n c)).get k).val =
      n.div (n.mul ((quantizeChannel n (c.get k)).toNat : Rat) 255) 7) ∧
  (∀ (n : Numeric) (w : Word16), w &&& 0xF888#16 = 0 → rgbToAtariWord n (atariWordToRgb n w) = w) ∧
  (∀ (n : Numeric) (c : RGB), quantizeExpand n (quantizeExpand n c) = quantizeExpand n c)

/-- R145, R146: the index found is a nearest entry, and the lowest such, under either `NUMERIC`; the distance is the sum
of the three channels' squared differences, in R145's order of operations. -/
def Obligations.NearestIsFirstMinimum : Prop :=
  (∀ (n : Numeric) (c : RGB) (P : Palette) (i : Idx),
    dist2 n c (paletteEntry P (nearestColorIndex n c P)) ≤ dist2 n c (paletteEntry P i) ∧
    (i < nearestColorIndex n c P →
      dist2 n c (paletteEntry P (nearestColorIndex n c P)) < dist2 n c (paletteEntry P i))) ∧
  (∀ a b : RGB, dist2 .exact a b =
    (a.r.val - b.r.val) ^ 2 + (a.g.val - b.g.val) ^ 2 + (a.b.val - b.b.val) ^ 2) ∧
  (∀ (n : Numeric) (a b : RGB), dist2 n a b =
    n.add (n.add (n.mul (n.sub a.r.val b.r.val) (n.sub a.r.val b.r.val))
      (n.mul (n.sub a.g.val b.g.val) (n.sub a.g.val b.g.val)))
      (n.mul (n.sub a.b.val b.b.val) (n.sub a.b.val b.b.val)))

/-! ### The commands -/

/-- R250: NOP has no effect besides STATE <- DONE and ERRCODE <- 0. -/
def Obligations.NopOnlyCompletes : Prop :=
  ∀ s : State, exec .nop s = .next { s with status := { s.status with engine := .done } } ∧
    EngineState.bits .done = 1 ∧ EngineState.errCode .done = 0

/-- R162: DEFPAL copies DEFAULT_PALETTE as it is, sets PAL_VALID and raises nothing; a second DEFPAL gives the same
PAL. -/
def Obligations.DefpalLoadsDefault : Prop :=
  ∀ s : State, ∃ t, exec .defpal s = .next t ∧ s.Completed t ∧ t.status.palValid = true ∧
    (∀ i, paletteEntry t.pal i = paletteEntry s.params.defaultPalette i) ∧
    ∃ u, exec .defpal t = .next u ∧ u.pal = t.pal

/-- R163, R165, R171: BUILDPAL completes on every source within the capacity; fewer than 16 samples (R164) give the
default palette as it is, and otherwise entry `i` is the anchored median cut's entry `i`, quantized and expanded, every
channel being one of the eight Atari values. -/
def Obligations.BuildpalCompletes : Prop :=
  ∀ s : State, s.overCapacity = false → ∃ t, exec .buildpal s = .next t ∧ s.Completed t ∧
    t.status.palValid = true ∧
    ((s.samples s.width s.height).length < 16 → t.pal = s.params.defaultPalette) ∧
    (16 ≤ (s.samples s.width s.height).length →
      (∀ i, paletteEntry t.pal i = quantizeExpand s.params.numeric
        (paletteEntry (enforceAnchors (fit16 s.params.defaultPalette
          (medianCut s.params.numeric 4 (s.samples s.width s.height)))) i)) ∧
      ∀ i k, ∃ q : Q3, ((paletteEntry t.pal i).get k).val =
        s.params.numeric.div (s.params.numeric.mul (q.toNat : Rat) 255) 7)

/-- R170, R172: with at least 16 samples, an anchor anywhere among the colours of the median cut leaves its slot alone,
one that is absent overwrites it (white absent from the list as the test for black left it), and no other slot changes;
for exact arithmetic (R172 (a)) an anchor no sample has is absent. -/
def Obligations.BuildpalForcesAbsentAnchors : Prop :=
  ∀ s : State, s.overCapacity = false → 16 ≤ (s.samples s.width s.height).length →
    let P := fit16 s.params.defaultPalette (medianCut s.params.numeric 4 (s.samples s.width s.height))
    let hasBlack := ∃ i, paletteEntry P i = .black
    let hasWhite := ∃ i, paletteEntry P i = .white ∧ (i = 0 → hasBlack)
    ∃ t, exec .buildpal s = .next t ∧
      (hasBlack → paletteEntry t.pal 0 = quantizeExpand s.params.numeric (paletteEntry P 0)) ∧
      (¬ hasBlack → paletteEntry t.pal 0 = .black) ∧
      (hasWhite → paletteEntry t.pal 1 = quantizeExpand s.params.numeric (paletteEntry P 1)) ∧
      (¬ hasWhite → paletteEntry t.pal 1 = .white) ∧
      (∀ i, i ≠ 0 → i ≠ 1 → paletteEntry t.pal i = quantizeExpand s.params.numeric (paletteEntry P i)) ∧
      (s.params.numeric = .exact →
        ((∀ c ∈ s.samples s.width s.height, c ≠ ⟨0, 0, 0⟩) → paletteEntry t.pal 0 = .black) ∧
        ((∀ c ∈ s.samples s.width s.height, c ≠ ⟨255, 255, 255⟩) → paletteEntry t.pal 1 = .white))

/-- R169: of at least 16 samples the median cut makes exactly 16 colours, so `fit16` neither truncates nor pads. -/
def Obligations.MedianCutGivesSixteen : Prop :=
  ∀ (n : Numeric) (S : List Rgb8), 16 ≤ S.length → (medianCut n 4 S).length = 16 ∧
    ∀ d : Palette, (fit16 d (medianCut n 4 S)).toList = medianCut n 4 S

/-- R167 (c): the sort reorders the samples, ascending by the one channel, equal ones in the order they had. -/
def Obligations.SampleSortIsStable : Prop :=
  ∀ (k : Channel) (S : List Rgb8),
    (sortByChannel k S).Perm S ∧
    (sortByChannel k S).Pairwise (fun c d => (sampleChannel c k).toNat ≤ (sampleChannel d k).toNat) ∧
    ∀ v : Byte, (sortByChannel k S).filter (fun c => sampleChannel c k == v) = S.filter (fun c => sampleChannel c k == v)

/-- R168, for exact arithmetic: a mean is the sum over the count, between the least and the greatest sample value: the
model's bound on a channel (log entry 14) changes nothing. -/
def Obligations.MeanIsAverage : Prop :=
  ∀ (S : List Rgb8) (k : Channel), S ≠ [] →
    ((mean .exact S).get k).val = (((S.map fun c => (sampleChannel c k).toNat).sum : Nat) : Rat) / (S.length : Rat) ∧
    (channelMin k S : Rat) ≤ ((mean .exact S).get k).val ∧ ((mean .exact S).get k).val ≤ (channelMax k S : Rat)

/-- R173: with at least 34 valid bytes EXTPAL makes entry `i` from the big-endian word at offset 2 + 2i; with fewer it
raises ERR_SHORT_INPUT. -/
def Obligations.ExtpalReadsHeader : Prop :=
  ∀ s : State,
    (34 ≤ s.inLen.toNat → ∃ t, exec .extpal s = .next t ∧ s.Completed t ∧ t.status.palValid = true ∧
      ∀ i : Idx, paletteEntry t.pal i =
        atariWordToRgb s.params.numeric
          (((s.pi1Byte (2 + 2 * i.toNat)).setWidth 16 <<< 8) ||| (s.pi1Byte (3 + 2 * i.toNat)).setWidth 16)) ∧
    (s.inLen.toNat < 34 → exec .extpal s =
      .next { s with status := { s.status with engine := .error .shortInput, errSticky := true } })

/-- R175: SETPAL makes entry `i` from the bytes of register 16+i, whatever OPTIONS says, and raises nothing. -/
def Obligations.SetpalLoadsCustom : Prop :=
  ∀ s : State, ∃ t, exec .setpal s = .next t ∧ s.Completed t ∧ t.status.palValid = true ∧
    ∀ (i : Idx) (v : Word), s.regRead? (16 + i.toNat) = some v →
      ((paletteEntry t.pal i).r.val = ((v.extractLsb' 16 8).toNat : Rat) ∧
       (paletteEntry t.pal i).g.val = ((v.extractLsb' 8 8).toNat : Rat) ∧
       (paletteEntry t.pal i).b.val = ((v.extractLsb' 0 8).toNat : Rat))

/-- R176: SELPAL does as the first of SETPAL, EXTPAL, BUILDPAL, DEFPAL that the options choose, and completes when that
branch has no cause to raise. -/
def Obligations.SelpalTakesOneBranch : Prop :=
  ∀ s : State,
    exec .selpal s = (if s.options.customValid then exec .setpal s
      else if s.options.srcIsPi1 then exec .extpal s
      else if s.options.useOpt then exec .buildpal s
      else exec .defpal s) ∧
    (s.selpalReady = true → ∃ t, exec .selpal s = .next t ∧ s.Completed t ∧ t.status.palValid = true)

/-- R190, R191: LOADWORK latches the dimensions and takes every source pixel's colour exactly, or raises ERR_CAPACITY. -/
def Obligations.LoadworkLatchesSource : Prop :=
  ∀ s : State,
    (s.overCapacity = false → ∃ t, exec .loadwork s = .next t ∧ s.Completed t ∧ t.status.workValid = true ∧
      t.work.w = s.width ∧ t.work.h = s.height ∧ t.work.pix.size = s.width.toInt.toNat * s.height.toInt.toNat ∧
      ∀ i < s.width.toInt.toNat * s.height.toInt.toNat,
        (workAt t.work.pix i).r.val = ((s.srcByte (4 * i)).toNat : Rat) ∧
        (workAt t.work.pix i).g.val = ((s.srcByte (4 * i + 1)).toNat : Rat) ∧
        (workAt t.work.pix i).b.val = ((s.srcByte (4 * i + 2)).toNat : Rat)) ∧
    (s.overCapacity = true → exec .loadwork s =
      .next { s with status := { s.status with engine := .error .capacity, errSticky := true } })

/-- R193, R195, R196: DITHER runs the pixels in row-major order at the latched dimensions, and after it every element
of WORK is a PAL entry. -/
def Obligations.DitherCompletes : Prop :=
  ∀ s : State, s.options.ditherLevel.toNat ≤ 10 → s.status.workValid = true → s.status.palValid = true →
    s.work.wf = true → ∃ t, exec .dither s = .next t ∧ s.Completed t ∧
      t.work.w = s.work.w ∧ t.work.h = s.work.h ∧ t.work.wf = true ∧
      t.work.pix = (List.range s.work.pix.size).foldl
        (ditherPixel s.params.numeric s.pal (s.params.numeric.div (s.options.ditherLevel.toNat : Rat) 10)
          s.work.w.toInt.toNat s.work.h.toInt.toNat) s.work.pix ∧
      ∀ i < s.work.pix.size, ∃ k, workAt t.work.pix i = paletteEntry s.pal k

/-- R193, R195, R197, R198: what the step at element `i` = (x, y) does to every element `j` of the raster: the pixel is
replaced by its nearest palette colour, each existing one of the four neighbours gets its share, clamped, and nothing
else changes. -/
def Obligations.DitherPixelSpreadsError : Prop :=
  ∀ (n : Numeric) (P : Palette) (strength : Rat) (W H : Nat) (pix : Array RGB) (i j : Nat),
    pix.size = W * H → i < W * H → j < W * H →
    let old := workAt pix i
    let new := paletteEntry P (nearestColorIndex n old P)
    let shared := fun share : Rat => RGB.ofFn fun k =>
      Chan.clamp (n.add ((workAt pix j).get k).val
        (n.div (n.mul (n.mul (n.sub (old.get k).val (new.get k).val) strength) share) 16))
    workAt (ditherPixel n P strength W H pix i) j =
      if j = i then new
      else if i % W + 1 < W ∧ j = i + 1 then shared 7
      else if 0 < i % W ∧ j + 1 = i + W then shared 3
      else if j = i + W then shared 5
      else if i % W + 1 < W ∧ j = i + W + 1 then shared 1
      else workAt pix j

/-- R199 (d), for exact arithmetic: a second DITHER leaves WORK as the first left it. -/
def Obligations.DitherIsIdempotent : Prop :=
  ∀ s : State, s.params.numeric = .exact → s.options.ditherLevel.toNat ≤ 10 → s.status.workValid = true →
    s.status.palValid = true → s.work.wf = true →
    ∃ t u, exec .dither s = .next t ∧ exec .dither t = .next u ∧ u.work = t.work

/-- R199 (c), for exact arithmetic: at level 0, MAP after DITHER gives the same IDX as MAP without it. -/
def Obligations.DitherLevelZeroKeepsIndices : Prop :=
  ∀ s : State, s.params.numeric = .exact → s.options.ditherLevel = 0 → s.status.workValid = true →
    s.status.palValid = true → s.work.wf = true →
    ∃ t u v, exec .dither s = .next t ∧ exec .map t = .next u ∧ exec .map s = .next v ∧ u.idx = v.idx

/-- R210, R212: the index of every canvas pixel, or ERR_UNINIT. -/
def Obligations.MapIndices : Prop :=
  ∀ s : State,
    (s.status.workValid = true → s.status.palValid = true → ∃ t, exec .map s = .next t ∧ s.Completed t ∧
      t.status.idxValid = true ∧
      ∀ x y : Nat, x < 320 → y < 200 → idxAt t.idx (y * 320 + x) =
        if (x : Int) < s.work.w.toInt ∧ (y : Int) < s.work.h.toInt
        then nearestColorIndex s.params.numeric (workAt s.work.pix (y * s.work.w.toInt.toNat + x)) s.pal
        else 0) ∧
    (s.status.workValid = false ∨ s.status.palValid = false → exec .map s =
      .next { s with status := { s.status with engine := .error .uninit, errSticky := true } })

/-- R215: after PACK the bit of canvas pixel (x, y) in plane `p` is bit `p` of its index. -/
def Obligations.PackPlaneBits : Prop :=
  ∀ s : State, s.status.idxValid = true → s.status.palValid = true → ∃ t, exec .pack s = .next t ∧ s.Completed t ∧
    t.status.outValid = true ∧
    ∀ p x y : Nat, p < 4 → x < 320 → y < 200 → ∃ b,
      t.out.at? (34 + p * 8000 + y * 40 + x / 8) = some b ∧
      b.getLsbD (7 - x % 8) = (idxAt s.idx (y * 320 + x)).getLsbD p

/-- R216, R119: after PACK offsets 0 and 1 are 0, entry `i`'s colour word stands big-endian at 2+2i, and OUT has
exactly 32034 bytes. -/
def Obligations.PackHeader : Prop :=
  ∀ s : State, s.status.idxValid = true → s.status.palValid = true → ∃ t, exec .pack s = .next t ∧
    t.out.at? 0 = some 0 ∧ t.out.at? 1 = some 0 ∧
    (∀ i : Idx,
      t.out.at? (2 + 2 * i.toNat) = some ((rgbToAtariWord s.params.numeric (paletteEntry s.pal i)).extractLsb' 8 8) ∧
      t.out.at? (3 + 2 * i.toNat) = some ((rgbToAtariWord s.params.numeric (paletteEntry s.pal i)).extractLsb' 0 8)) ∧
    (∀ a, (t.out.at? a).isSome = true ↔ a < 32034)

/-- R219: the four bytes of every preview pixel, `rhu` of the palette entry's channels and 255 (for exact arithmetic
the byte's value is the rounded channel), or ERR_UNINIT. -/
def Obligations.PreviewPixels : Prop :=
  ∀ s : State,
    (s.status.idxValid = true → s.status.palValid = true → ∃ t, exec .preview s = .next t ∧ s.Completed t ∧
      t.status.rgbaValid = true ∧
      ∀ m < 64000, ∃ r g b : Byte,
        t.rgbaout.at? (4 * m) = some r ∧ t.rgbaout.at? (4 * m + 1) = some g ∧ t.rgbaout.at? (4 * m + 2) = some b ∧
        t.rgbaout.at? (4 * m + 3) = some 255 ∧
        r = BitVec.ofInt 8 (s.params.numeric.rhu (paletteEntry s.pal (idxAt s.idx m)).r.val) ∧
        g = BitVec.ofInt 8 (s.params.numeric.rhu (paletteEntry s.pal (idxAt s.idx m)).g.val) ∧
        b = BitVec.ofInt 8 (s.params.numeric.rhu (paletteEntry s.pal (idxAt s.idx m)).b.val) ∧
        (s.params.numeric = .exact →
          (r.toNat : Int) = ((paletteEntry s.pal (idxAt s.idx m)).r.val + 1 / 2 : Rat).floor ∧
          (g.toNat : Int) = ((paletteEntry s.pal (idxAt s.idx m)).g.val + 1 / 2 : Rat).floor ∧
          (b.toNat : Int) = ((paletteEntry s.pal (idxAt s.idx m)).b.val + 1 / 2 : Rat).floor)) ∧
    (s.status.idxValid = false ∨ s.status.palValid = false → exec .preview s =
      .next { s with status := { s.status with engine := .error .uninit, errSticky := true } })

/-- R222, R223: ENCODE makes its three checks in order before it writes anything, and otherwise completes with all five
flags set and both outputs wholly written. -/
def Obligations.EncodeAllOrNothing : Prop :=
  ∀ s : State,
    (10 < s.options.ditherLevel.toNat → exec .encode s = .next (s.raise .badOption)) ∧
    (s.options.ditherLevel.toNat ≤ 10 → s.overCapacity = true → exec .encode s = .next (s.raise .capacity)) ∧
    (s.options.ditherLevel.toNat ≤ 10 → s.overCapacity = false → s.options.customValid = false →
      s.options.srcIsPi1 = true → s.inLen.toNat < 34 → exec .encode s = .next (s.raise .shortInput)) ∧
    (s.encodeReady = true → ∃ t, exec .encode s = .next t ∧ s.Completed t ∧ t.status.palValid = true ∧
      t.status.workValid = true ∧ t.status.idxValid = true ∧ t.status.outValid = true ∧ t.status.rgbaValid = true ∧
      (∀ a, (t.out.at? a).isSome = true ↔ a < 32034) ∧ (∀ a, (t.rgbaout.at? a).isSome = true ↔ a < 256000))

/-- R224: when ENCODE does not raise, it leaves the state that its step commands leave. -/
def Obligations.EncodeEqualsStepCommands : Prop :=
  ∀ s : State, s.encodeReady = true → encodeByCommands s = exec .encode s

/-- R226 (a): a zero or negative dimension is no error; every index and every plane byte is 0, and with the reset
options the palette is DEFAULT_PALETTE. -/
def Obligations.EncodeOfDegenerateSize : Prop :=
  ∀ s : State, s.encodeReady = true → s.width.toInt ≤ 0 ∨ s.height.toInt ≤ 0 →
    ∃ t, exec .encode s = .next t ∧ s.Completed t ∧
      (∀ m < 64000, idxAt t.idx m = 0) ∧ (∀ a, 34 ≤ a → a < 32034 → t.out.at? a = some 0) ∧
      (s.options = .reset → t.pal = s.params.defaultPalette)

/-- R226 (e): running ENCODE twice without touching the inputs gives the same state twice. -/
def Obligations.EncodeTwiceSameState : Prop :=
  ∀ s : State, s.encodeReady = true → ∃ t, exec .encode s = .next t ∧ exec .encode t = .next t

/-- R22, R88: what ENCODE writes depends only on the parameters, the host's registers and the bytes of SRC and PI1IN:
two states that agree on these get the same outcome and the same five buffers, whatever their hidden state was. -/
def Obligations.EncodeIgnoresHiddenState : Prop :=
  ∀ s s' t t' : State, s.params = s'.params → s.width = s'.width → s.height = s'.height → s.options = s'.options →
    s.inLen = s'.inLen → s.cpal = s'.cpal → (∀ a, s.srcByte a = s'.srcByte a) → (∀ a, s.pi1Byte a = s'.pi1Byte a) →
    exec .encode s = .next t → exec .encode s' = .next t' →
    t.status.engine = t'.status.engine ∧
    (t.status.engine = .done → t.pal = t'.pal ∧ t.work = t'.work ∧ t.idx = t'.idx ∧ t.out = t'.out ∧
      t.rgbaout = t'.rgbaout)

/-- R240, R241, R243, R244: with all 32034 bytes valid DECODE reads the palette as EXTPAL does and every index from its
four plane bits; with fewer it raises ERR_SHORT_INPUT. -/
def Obligations.DecodeReadsPaletteAndPlanes : Prop :=
  ∀ s : State,
    (32034 ≤ s.inLen.toNat → ∃ t, exec .decode s = .next t ∧ s.Completed t ∧ t.status.palValid = true ∧
      t.status.idxValid = true ∧ t.status.rgbaValid = true ∧
      (∀ i : Idx, paletteEntry t.pal i =
        atariWordToRgb s.params.numeric
          (((s.pi1Byte (2 + 2 * i.toNat)).setWidth 16 <<< 8) ||| (s.pi1Byte (3 + 2 * i.toNat)).setWidth 16)) ∧
      (∀ p x y : Nat, p < 4 → x < 320 → y < 200 →
        (idxAt t.idx (y * 320 + x)).getLsbD p =
          (s.pi1Byte (34 + p * 8000 + y * 40 + x / 8)).getLsbD (7 - x % 8))) ∧
    (s.inLen.toNat < 32034 → exec .decode s =
      .next { s with status := { s.status with engine := .error .shortInput, errSticky := true } })

/-- R245: after DECODE every pixel shows the palette colour of its index with alpha 255, and each channel byte, `rhu`
of the entry's channel, is one of the eight. -/
def Obligations.DecodePixels : Prop :=
  ∀ s : State, 32034 ≤ s.inLen.toNat → ∃ t, exec .decode s = .next t ∧
    ∀ m < 64000, ∃ r g b : Byte,
      t.rgbaout.at? (4 * m) = some r ∧ t.rgbaout.at? (4 * m + 1) = some g ∧ t.rgbaout.at? (4 * m + 2) = some b ∧
      t.rgbaout.at? (4 * m + 3) = some 255 ∧
      (r.toNat : Int) = s.params.numeric.rhu (paletteEntry t.pal (idxAt t.idx m)).r.val ∧
      (g.toNat : Int) = s.params.numeric.rhu (paletteEntry t.pal (idxAt t.idx m)).g.val ∧
      (b.toNat : Int) = s.params.numeric.rhu (paletteEntry t.pal (idxAt t.idx m)).b.val ∧
      r ∈ [0#8, 36#8, 73#8, 109#8, 146#8, 182#8, 219#8, 255#8] ∧
      g ∈ [0#8, 36#8, 73#8, 109#8, 146#8, 182#8, 219#8, 255#8] ∧
      b ∈ [0#8, 36#8, 73#8, 109#8, 146#8, 182#8, 219#8, 255#8]

/-- R244: for any IDX and PAL, DECODE of the bytes PACK wrote gives that IDX back, and each palette entry quantized. -/
def Obligations.PackDecodeRoundTrip : Prop :=
  ∀ s : State, s.status.idxValid = true → s.status.palValid = true →
    ∃ t u, exec .pack s = .next t ∧ exec .decode t.outCopiedToPi1in = .next u ∧ u.status.engine = .done ∧
      u.idx = s.idx ∧
      ∀ i, paletteEntry u.pal i = quantizeExpand s.params.numeric (paletteEntry s.pal i)

/-- R225 (b): for every conversion ENCODE completes, DECODE of its OUT gives the same indices and each palette entry
quantized. -/
def Obligations.EncodeDecodeRoundTrip : Prop :=
  ∀ s : State, s.encodeReady = true →
    ∃ t u, exec .encode s = .next t ∧ exec .decode t.outCopiedToPi1in = .next u ∧ u.status.engine = .done ∧
      u.idx = t.idx ∧
      ∀ i, paletteEntry u.pal i = quantizeExpand s.params.numeric (paletteEntry t.pal i)

/-! ### The steps of the quantizer -/

/-- R164: the samples are the source pixels with alpha above 128, 128 itself excluded, a colour as often as it occurs, in
pixel order; a dimension that is not positive gives none. -/
def Obligations.SamplesAreOpaquePixels : Prop :=
  ∀ (s : State) (w h : Word),
    s.samples w h =
      ((List.range (w.toInt.toNat * h.toInt.toNat)).filter fun i => decide (128 < (s.srcByte (4 * i + 3)).toNat)).map
        (fun i => ⟨s.srcByte (4 * i), s.srcByte (4 * i + 1), s.srcByte (4 * i + 2)⟩) ∧
    (w.toInt ≤ 0 ∨ h.toInt ≤ 0 → s.samples w h = [])

/-- R166, R167 (a), (b), (d): the range of a channel is the greatest difference of two samples; the widest channel, equal
ranges preferring R over G over B, is the one sorted by; the list is divided at `length div 2`, the lower half first; at
depth 0 there is the mean, and an empty list has no colour. -/
def Obligations.MedianCutSplits : Prop :=
  ∀ (n : Numeric) (S : List Rgb8),
    (∀ d, medianCut n d [] = []) ∧
    (S ≠ [] → medianCut n 0 S = [mean n S]) ∧
    (S ≠ [] → ∀ d, medianCut n (d + 1) S =
      medianCut n d ((sortByChannel (widestChannel S) S).take (S.length / 2)) ++
        medianCut n d ((sortByChannel (widestChannel S) S).drop (S.length / 2))) ∧
    (S ≠ [] → ∀ k : Channel,
      (∃ c ∈ S, ∃ d ∈ S, (sampleChannel c k).toNat = (sampleChannel d k).toNat + channelRange k S) ∧
      ∀ c ∈ S, ∀ d ∈ S, (sampleChannel c k).toNat ≤ (sampleChannel d k).toNat + channelRange k S) ∧
    (widestChannel S = .r ↔ channelRange .g S ≤ channelRange .r S ∧ channelRange .b S ≤ channelRange .r S) ∧
    (widestChannel S = .g ↔ (channelRange .r S < channelRange .g S ∨ channelRange .r S < channelRange .b S) ∧
      channelRange .b S ≤ channelRange .g S) ∧
    (widestChannel S = .b ↔ (channelRange .r S < channelRange .g S ∨ channelRange .r S < channelRange .b S) ∧
      channelRange .g S < channelRange .b S)
end

