-- ==== Sys2Proof/Laws/State.lean ====
section
/-!
SUPPORT. One lemma per field per update of the state, so that no later proof unfolds a record update.
-/

namespace Sys2Proof.Machine

@[simp] theorem State.setPal_params (s : State) (p : Palette) : (s.setPal p).params = s.params := rfl
@[simp] theorem State.setPal_width (s : State) (p : Palette) : (s.setPal p).width = s.width := rfl
@[simp] theorem State.setPal_height (s : State) (p : Palette) : (s.setPal p).height = s.height := rfl
@[simp] theorem State.setPal_options (s : State) (p : Palette) : (s.setPal p).options = s.options := rfl
@[simp] theorem State.setPal_inLen (s : State) (p : Palette) : (s.setPal p).inLen = s.inLen := rfl
@[simp] theorem State.setPal_cpal (s : State) (p : Palette) : (s.setPal p).cpal = s.cpal := rfl
@[simp] theorem State.setPal_pal (s : State) (p : Palette) : (s.setPal p).pal = p := rfl
@[simp] theorem State.setPal_work (s : State) (p : Palette) : (s.setPal p).work = s.work := rfl
@[simp] theorem State.setPal_idx (s : State) (p : Palette) : (s.setPal p).idx = s.idx := rfl
@[simp] theorem State.setPal_src (s : State) (p : Palette) : (s.setPal p).src = s.src := rfl
@[simp] theorem State.setPal_pi1in (s : State) (p : Palette) : (s.setPal p).pi1in = s.pi1in := rfl
@[simp] theorem State.setPal_out (s : State) (p : Palette) : (s.setPal p).out = s.out := rfl
@[simp] theorem State.setPal_rgbaout (s : State) (p : Palette) : (s.setPal p).rgbaout = s.rgbaout := rfl
@[simp] theorem State.setPal_epoch (s : State) (p : Palette) : (s.setPal p).epoch = s.epoch := rfl
@[simp] theorem State.setPal_host (s : State) (p : Palette) : (s.setPal p).host = s.host := rfl
@[simp] theorem State.setPal_engine (s : State) (p : Palette) : (s.setPal p).status.engine = s.status.engine := rfl
@[simp] theorem State.setPal_palValid (s : State) (p : Palette) : (s.setPal p).status.palValid = true := rfl
@[simp] theorem State.setPal_workValid (s : State) (p : Palette) : (s.setPal p).status.workValid = s.status.workValid := rfl
@[simp] theorem State.setPal_idxValid (s : State) (p : Palette) : (s.setPal p).status.idxValid = s.status.idxValid := rfl
@[simp] theorem State.setPal_outValid (s : State) (p : Palette) : (s.setPal p).status.outValid = s.status.outValid := rfl
@[simp] theorem State.setPal_rgbaValid (s : State) (p : Palette) : (s.setPal p).status.rgbaValid = s.status.rgbaValid := rfl
@[simp] theorem State.setPal_errSticky (s : State) (p : Palette) : (s.setPal p).status.errSticky = s.status.errSticky := rfl

@[simp] theorem State.setWork_params (s : State) (w : Work) : (s.setWork w).params = s.params := rfl
@[simp] theorem State.setWork_width (s : State) (w : Work) : (s.setWork w).width = s.width := rfl
@[simp] theorem State.setWork_height (s : State) (w : Work) : (s.setWork w).height = s.height := rfl
@[simp] theorem State.setWork_options (s : State) (w : Work) : (s.setWork w).options = s.options := rfl
@[simp] theorem State.setWork_inLen (s : State) (w : Work) : (s.setWork w).inLen = s.inLen := rfl
@[simp] theorem State.setWork_cpal (s : State) (w : Work) : (s.setWork w).cpal = s.cpal := rfl
@[simp] theorem State.setWork_pal (s : State) (w : Work) : (s.setWork w).pal = s.pal := rfl
@[simp] theorem State.setWork_work (s : State) (w : Work) : (s.setWork w).work = w := rfl
@[simp] theorem State.setWork_idx (s : State) (w : Work) : (s.setWork w).idx = s.idx := rfl
@[simp] theorem State.setWork_src (s : State) (w : Work) : (s.setWork w).src = s.src := rfl
@[simp] theorem State.setWork_pi1in (s : State) (w : Work) : (s.setWork w).pi1in = s.pi1in := rfl
@[simp] theorem State.setWork_out (s : State) (w : Work) : (s.setWork w).out = s.out := rfl
@[simp] theorem State.setWork_rgbaout (s : State) (w : Work) : (s.setWork w).rgbaout = s.rgbaout := rfl
@[simp] theorem State.setWork_epoch (s : State) (w : Work) : (s.setWork w).epoch = s.epoch := rfl
@[simp] theorem State.setWork_host (s : State) (w : Work) : (s.setWork w).host = s.host := rfl
@[simp] theorem State.setWork_engine (s : State) (w : Work) : (s.setWork w).status.engine = s.status.engine := rfl
@[simp] theorem State.setWork_palValid (s : State) (w : Work) : (s.setWork w).status.palValid = s.status.palValid := rfl
@[simp] theorem State.setWork_workValid (s : State) (w : Work) : (s.setWork w).status.workValid = true := rfl
@[simp] theorem State.setWork_idxValid (s : State) (w : Work) : (s.setWork w).status.idxValid = s.status.idxValid := rfl
@[simp] theorem State.setWork_outValid (s : State) (w : Work) : (s.setWork w).status.outValid = s.status.outValid := rfl
@[simp] theorem State.setWork_rgbaValid (s : State) (w : Work) : (s.setWork w).status.rgbaValid = s.status.rgbaValid := rfl
@[simp] theorem State.setWork_errSticky (s : State) (w : Work) : (s.setWork w).status.errSticky = s.status.errSticky := rfl

@[simp] theorem State.setIdx_params (s : State) (x : IdxRaster) : (s.setIdx x).params = s.params := rfl
@[simp] theorem State.setIdx_width (s : State) (x : IdxRaster) : (s.setIdx x).width = s.width := rfl
@[simp] theorem State.setIdx_height (s : State) (x : IdxRaster) : (s.setIdx x).height = s.height := rfl
@[simp] theorem State.setIdx_options (s : State) (x : IdxRaster) : (s.setIdx x).options = s.options := rfl
@[simp] theorem State.setIdx_inLen (s : State) (x : IdxRaster) : (s.setIdx x).inLen = s.inLen := rfl
@[simp] theorem State.setIdx_cpal (s : State) (x : IdxRaster) : (s.setIdx x).cpal = s.cpal := rfl
@[simp] theorem State.setIdx_pal (s : State) (x : IdxRaster) : (s.setIdx x).pal = s.pal := rfl
@[simp] theorem State.setIdx_work (s : State) (x : IdxRaster) : (s.setIdx x).work = s.work := rfl
@[simp] theorem State.setIdx_idx (s : State) (x : IdxRaster) : (s.setIdx x).idx = x := rfl
@[simp] theorem State.setIdx_src (s : State) (x : IdxRaster) : (s.setIdx x).src = s.src := rfl
@[simp] theorem State.setIdx_pi1in (s : State) (x : IdxRaster) : (s.setIdx x).pi1in = s.pi1in := rfl
@[simp] theorem State.setIdx_out (s : State) (x : IdxRaster) : (s.setIdx x).out = s.out := rfl
@[simp] theorem State.setIdx_rgbaout (s : State) (x : IdxRaster) : (s.setIdx x).rgbaout = s.rgbaout := rfl
@[simp] theorem State.setIdx_epoch (s : State) (x : IdxRaster) : (s.setIdx x).epoch = s.epoch := rfl
@[simp] theorem State.setIdx_host (s : State) (x : IdxRaster) : (s.setIdx x).host = s.host := rfl
@[simp] theorem State.setIdx_engine (s : State) (x : IdxRaster) : (s.setIdx x).status.engine = s.status.engine := rfl
@[simp] theorem State.setIdx_palValid (s : State) (x : IdxRaster) : (s.setIdx x).status.palValid = s.status.palValid := rfl
@[simp] theorem State.setIdx_workValid (s : State) (x : IdxRaster) : (s.setIdx x).status.workValid = s.status.workValid := rfl
@[simp] theorem State.setIdx_idxValid (s : State) (x : IdxRaster) : (s.setIdx x).status.idxValid = true := rfl
@[simp] theorem State.setIdx_outValid (s : State) (x : IdxRaster) : (s.setIdx x).status.outValid = s.status.outValid := rfl
@[simp] theorem State.setIdx_rgbaValid (s : State) (x : IdxRaster) : (s.setIdx x).status.rgbaValid = s.status.rgbaValid := rfl
@[simp] theorem State.setIdx_errSticky (s : State) (x : IdxRaster) : (s.setIdx x).status.errSticky = s.status.errSticky := rfl

@[simp] theorem State.setOut_params (s : State) (m : Memory) : (s.setOut m).params = s.params := rfl
@[simp] theorem State.setOut_width (s : State) (m : Memory) : (s.setOut m).width = s.width := rfl
@[simp] theorem State.setOut_height (s : State) (m : Memory) : (s.setOut m).height = s.height := rfl
@[simp] theorem State.setOut_options (s : State) (m : Memory) : (s.setOut m).options = s.options := rfl
@[simp] theorem State.setOut_inLen (s : State) (m : Memory) : (s.setOut m).inLen = s.inLen := rfl
@[simp] theorem State.setOut_cpal (s : State) (m : Memory) : (s.setOut m).cpal = s.cpal := rfl
@[simp] theorem State.setOut_pal (s : State) (m : Memory) : (s.setOut m).pal = s.pal := rfl
@[simp] theorem State.setOut_work (s : State) (m : Memory) : (s.setOut m).work = s.work := rfl
@[simp] theorem State.setOut_idx (s : State) (m : Memory) : (s.setOut m).idx = s.idx := rfl
@[simp] theorem State.setOut_src (s : State) (m : Memory) : (s.setOut m).src = s.src := rfl
@[simp] theorem State.setOut_pi1in (s : State) (m : Memory) : (s.setOut m).pi1in = s.pi1in := rfl
@[simp] theorem State.setOut_out (s : State) (m : Memory) : (s.setOut m).out = m := rfl
@[simp] theorem State.setOut_rgbaout (s : State) (m : Memory) : (s.setOut m).rgbaout = s.rgbaout := rfl
@[simp] theorem State.setOut_epoch (s : State) (m : Memory) : (s.setOut m).epoch = s.epoch := rfl
@[simp] theorem State.setOut_host (s : State) (m : Memory) : (s.setOut m).host = s.host := rfl
@[simp] theorem State.setOut_engine (s : State) (m : Memory) : (s.setOut m).status.engine = s.status.engine := rfl
@[simp] theorem State.setOut_palValid (s : State) (m : Memory) : (s.setOut m).status.palValid = s.status.palValid := rfl
@[simp] theorem State.setOut_workValid (s : State) (m : Memory) : (s.setOut m).status.workValid = s.status.workValid := rfl
@[simp] theorem State.setOut_idxValid (s : State) (m : Memory) : (s.setOut m).status.idxValid = s.status.idxValid := rfl
@[simp] theorem State.setOut_outValid (s : State) (m : Memory) : (s.setOut m).status.outValid = true := rfl
@[simp] theorem State.setOut_rgbaValid (s : State) (m : Memory) : (s.setOut m).status.rgbaValid = s.status.rgbaValid := rfl
@[simp] theorem State.setOut_errSticky (s : State) (m : Memory) : (s.setOut m).status.errSticky = s.status.errSticky := rfl

@[simp] theorem State.setRgba_params (s : State) (m : Memory) : (s.setRgba m).params = s.params := rfl
@[simp] theorem State.setRgba_width (s : State) (m : Memory) : (s.setRgba m).width = s.width := rfl
@[simp] theorem State.setRgba_height (s : State) (m : Memory) : (s.setRgba m).height = s.height := rfl
@[simp] theorem State.setRgba_options (s : State) (m : Memory) : (s.setRgba m).options = s.options := rfl
@[simp] theorem State.setRgba_inLen (s : State) (m : Memory) : (s.setRgba m).inLen = s.inLen := rfl
@[simp] theorem State.setRgba_cpal (s : State) (m : Memory) : (s.setRgba m).cpal = s.cpal := rfl
@[simp] theorem State.setRgba_pal (s : State) (m : Memory) : (s.setRgba m).pal = s.pal := rfl
@[simp] theorem State.setRgba_work (s : State) (m : Memory) : (s.setRgba m).work = s.work := rfl
@[simp] theorem State.setRgba_idx (s : State) (m : Memory) : (s.setRgba m).idx = s.idx := rfl
@[simp] theorem State.setRgba_src (s : State) (m : Memory) : (s.setRgba m).src = s.src := rfl
@[simp] theorem State.setRgba_pi1in (s : State) (m : Memory) : (s.setRgba m).pi1in = s.pi1in := rfl
@[simp] theorem State.setRgba_out (s : State) (m : Memory) : (s.setRgba m).out = s.out := rfl
@[simp] theorem State.setRgba_rgbaout (s : State) (m : Memory) : (s.setRgba m).rgbaout = m := rfl
@[simp] theorem State.setRgba_epoch (s : State) (m : Memory) : (s.setRgba m).epoch = s.epoch := rfl
@[simp] theorem State.setRgba_host (s : State) (m : Memory) : (s.setRgba m).host = s.host := rfl
@[simp] theorem State.setRgba_engine (s : State) (m : Memory) : (s.setRgba m).status.engine = s.status.engine := rfl
@[simp] theorem State.setRgba_palValid (s : State) (m : Memory) : (s.setRgba m).status.palValid = s.status.palValid := rfl
@[simp] theorem State.setRgba_workValid (s : State) (m : Memory) : (s.setRgba m).status.workValid = s.status.workValid := rfl
@[simp] theorem State.setRgba_idxValid (s : State) (m : Memory) : (s.setRgba m).status.idxValid = s.status.idxValid := rfl
@[simp] theorem State.setRgba_outValid (s : State) (m : Memory) : (s.setRgba m).status.outValid = s.status.outValid := rfl
@[simp] theorem State.setRgba_rgbaValid (s : State) (m : Memory) : (s.setRgba m).status.rgbaValid = true := rfl
@[simp] theorem State.setRgba_errSticky (s : State) (m : Memory) : (s.setRgba m).status.errSticky = s.status.errSticky := rfl

@[simp] theorem State.complete_params (s : State) : s.complete.params = s.params := rfl
@[simp] theorem State.complete_width (s : State) : s.complete.width = s.width := rfl
@[simp] theorem State.complete_height (s : State) : s.complete.height = s.height := rfl
@[simp] theorem State.complete_options (s : State) : s.complete.options = s.options := rfl
@[simp] theorem State.complete_inLen (s : State) : s.complete.inLen = s.inLen := rfl
@[simp] theorem State.complete_cpal (s : State) : s.complete.cpal = s.cpal := rfl
@[simp] theorem State.complete_pal (s : State) : s.complete.pal = s.pal := rfl
@[simp] theorem State.complete_work (s : State) : s.complete.work = s.work := rfl
@[simp] theorem State.complete_idx (s : State) : s.complete.idx = s.idx := rfl
@[simp] theorem State.complete_src (s : State) : s.complete.src = s.src := rfl
@[simp] theorem State.complete_pi1in (s : State) : s.complete.pi1in = s.pi1in := rfl
@[simp] theorem State.complete_out (s : State) : s.complete.out = s.out := rfl
@[simp] theorem State.complete_rgbaout (s : State) : s.complete.rgbaout = s.rgbaout := rfl
@[simp] theorem State.complete_epoch (s : State) : s.complete.epoch = s.epoch := rfl
@[simp] theorem State.complete_host (s : State) : s.complete.host = s.host := rfl
@[simp] theorem State.complete_engine (s : State) : s.complete.status.engine = .done := rfl
@[simp] theorem State.complete_palValid (s : State) : s.complete.status.palValid = s.status.palValid := rfl
@[simp] theorem State.complete_workValid (s : State) : s.complete.status.workValid = s.status.workValid := rfl
@[simp] theorem State.complete_idxValid (s : State) : s.complete.status.idxValid = s.status.idxValid := rfl
@[simp] theorem State.complete_outValid (s : State) : s.complete.status.outValid = s.status.outValid := rfl
@[simp] theorem State.complete_rgbaValid (s : State) : s.complete.status.rgbaValid = s.status.rgbaValid := rfl
@[simp] theorem State.complete_errSticky (s : State) : s.complete.status.errSticky = s.status.errSticky := rfl

@[simp] theorem State.raise_params (s : State) (e : ErrCode) : (s.raise e).params = s.params := rfl
@[simp] theorem State.raise_width (s : State) (e : ErrCode) : (s.raise e).width = s.width := rfl
@[simp] theorem State.raise_height (s : State) (e : ErrCode) : (s.raise e).height = s.height := rfl
@[simp] theorem State.raise_options (s : State) (e : ErrCode) : (s.raise e).options = s.options := rfl
@[simp] theorem State.raise_inLen (s : State) (e : ErrCode) : (s.raise e).inLen = s.inLen := rfl
@[simp] theorem State.raise_cpal (s : State) (e : ErrCode) : (s.raise e).cpal = s.cpal := rfl
@[simp] theorem State.raise_pal (s : State) (e : ErrCode) : (s.raise e).pal = s.pal := rfl
@[simp] theorem State.raise_work (s : State) (e : ErrCode) : (s.raise e).work = s.work := rfl
@[simp] theorem State.raise_idx (s : State) (e : ErrCode) : (s.raise e).idx = s.idx := rfl
@[simp] theorem State.raise_src (s : State) (e : ErrCode) : (s.raise e).src = s.src := rfl
@[simp] theorem State.raise_pi1in (s : State) (e : ErrCode) : (s.raise e).pi1in = s.pi1in := rfl
@[simp] theorem State.raise_out (s : State) (e : ErrCode) : (s.raise e).out = s.out := rfl
@[simp] theorem State.raise_rgbaout (s : State) (e : ErrCode) : (s.raise e).rgbaout = s.rgbaout := rfl
@[simp] theorem State.raise_epoch (s : State) (e : ErrCode) : (s.raise e).epoch = s.epoch := rfl
@[simp] theorem State.raise_host (s : State) (e : ErrCode) : (s.raise e).host = s.host := rfl
@[simp] theorem State.raise_engine (s : State) (e : ErrCode) : (s.raise e).status.engine = .error e := rfl
@[simp] theorem State.raise_palValid (s : State) (e : ErrCode) : (s.raise e).status.palValid = s.status.palValid := rfl
@[simp] theorem State.raise_workValid (s : State) (e : ErrCode) : (s.raise e).status.workValid = s.status.workValid := rfl
@[simp] theorem State.raise_idxValid (s : State) (e : ErrCode) : (s.raise e).status.idxValid = s.status.idxValid := rfl
@[simp] theorem State.raise_outValid (s : State) (e : ErrCode) : (s.raise e).status.outValid = s.status.outValid := rfl
@[simp] theorem State.raise_rgbaValid (s : State) (e : ErrCode) : (s.raise e).status.rgbaValid = s.status.rgbaValid := rfl
@[simp] theorem State.raise_errSticky (s : State) (e : ErrCode) : (s.raise e).status.errSticky = true := rfl

@[simp] theorem State.setCpal_params (s : State) (i : Idx) (c : Rgb8) : (s.setCpal i c).params = s.params := rfl
@[simp] theorem State.setCpal_status (s : State) (i : Idx) (c : Rgb8) : (s.setCpal i c).status = s.status := rfl
@[simp] theorem State.setCpal_width (s : State) (i : Idx) (c : Rgb8) : (s.setCpal i c).width = s.width := rfl
@[simp] theorem State.setCpal_height (s : State) (i : Idx) (c : Rgb8) : (s.setCpal i c).height = s.height := rfl
@[simp] theorem State.setCpal_options (s : State) (i : Idx) (c : Rgb8) : (s.setCpal i c).options = s.options := rfl
@[simp] theorem State.setCpal_inLen (s : State) (i : Idx) (c : Rgb8) : (s.setCpal i c).inLen = s.inLen := rfl
@[simp] theorem State.setCpal_cpal (s : State) (i : Idx) (c : Rgb8) : (s.setCpal i c).cpal = s.cpal.set i.toNat c i.isLt := rfl
@[simp] theorem State.setCpal_pal (s : State) (i : Idx) (c : Rgb8) : (s.setCpal i c).pal = s.pal := rfl
@[simp] theorem State.setCpal_work (s : State) (i : Idx) (c : Rgb8) : (s.setCpal i c).work = s.work := rfl
@[simp] theorem State.setCpal_idx (s : State) (i : Idx) (c : Rgb8) : (s.setCpal i c).idx = s.idx := rfl
@[simp] theorem State.setCpal_src (s : State) (i : Idx) (c : Rgb8) : (s.setCpal i c).src = s.src := rfl
@[simp] theorem State.setCpal_pi1in (s : State) (i : Idx) (c : Rgb8) : (s.setCpal i c).pi1in = s.pi1in := rfl
@[simp] theorem State.setCpal_out (s : State) (i : Idx) (c : Rgb8) : (s.setCpal i c).out = s.out := rfl
@[simp] theorem State.setCpal_rgbaout (s : State) (i : Idx) (c : Rgb8) : (s.setCpal i c).rgbaout = s.rgbaout := rfl
@[simp] theorem State.setCpal_epoch (s : State) (i : Idx) (c : Rgb8) : (s.setCpal i c).epoch = s.epoch := rfl
@[simp] theorem State.setCpal_host (s : State) (i : Idx) (c : Rgb8) : (s.setCpal i c).host = s.host := rfl

@[simp] theorem State.taking_params (s : State) (rest : List HostMove) : (s.taking rest).params = s.params := rfl
@[simp] theorem State.taking_status (s : State) (rest : List HostMove) : (s.taking rest).status = s.status := rfl
@[simp] theorem State.taking_width (s : State) (rest : List HostMove) : (s.taking rest).width = s.width := rfl
@[simp] theorem State.taking_height (s : State) (rest : List HostMove) : (s.taking rest).height = s.height := rfl
@[simp] theorem State.taking_options (s : State) (rest : List HostMove) : (s.taking rest).options = s.options := rfl
@[simp] theorem State.taking_inLen (s : State) (rest : List HostMove) : (s.taking rest).inLen = s.inLen := rfl
@[simp] theorem State.taking_cpal (s : State) (rest : List HostMove) : (s.taking rest).cpal = s.cpal := rfl
@[simp] theorem State.taking_pal (s : State) (rest : List HostMove) : (s.taking rest).pal = s.pal := rfl
@[simp] theorem State.taking_work (s : State) (rest : List HostMove) : (s.taking rest).work = s.work := rfl
@[simp] theorem State.taking_idx (s : State) (rest : List HostMove) : (s.taking rest).idx = s.idx := rfl
@[simp] theorem State.taking_src (s : State) (rest : List HostMove) : (s.taking rest).src = s.src := rfl
@[simp] theorem State.taking_pi1in (s : State) (rest : List HostMove) : (s.taking rest).pi1in = s.pi1in := rfl
@[simp] theorem State.taking_out (s : State) (rest : List HostMove) : (s.taking rest).out = s.out := rfl
@[simp] theorem State.taking_rgbaout (s : State) (rest : List HostMove) : (s.taking rest).rgbaout = s.rgbaout := rfl
@[simp] theorem State.taking_epoch (s : State) (rest : List HostMove) : (s.taking rest).epoch = s.epoch := rfl
@[simp] theorem State.taking_host (s : State) (rest : List HostMove) : (s.taking rest).host = { script := rest, answer := .nothing } := rfl

@[simp] theorem State.resetMachine_params (s : State) : s.resetMachine.params = s.params := rfl
@[simp] theorem State.resetMachine_status (s : State) : s.resetMachine.status = Status.reset := rfl
@[simp] theorem State.resetMachine_width (s : State) : s.resetMachine.width = State.reset.width := rfl
@[simp] theorem State.resetMachine_height (s : State) : s.resetMachine.height = State.reset.height := rfl
@[simp] theorem State.resetMachine_options (s : State) : s.resetMachine.options = State.reset.options := rfl
@[simp] theorem State.resetMachine_inLen (s : State) : s.resetMachine.inLen = State.reset.inLen := rfl
@[simp] theorem State.resetMachine_cpal (s : State) : s.resetMachine.cpal = State.reset.cpal := rfl
@[simp] theorem State.resetMachine_pal (s : State) : s.resetMachine.pal = State.reset.pal := rfl
@[simp] theorem State.resetMachine_work (s : State) : s.resetMachine.work = State.reset.work := rfl
@[simp] theorem State.resetMachine_idx (s : State) : s.resetMachine.idx = State.reset.idx := rfl
@[simp] theorem State.resetMachine_src (s : State) : s.resetMachine.src = State.reset.src := rfl
@[simp] theorem State.resetMachine_pi1in (s : State) : s.resetMachine.pi1in = State.reset.pi1in := rfl
@[simp] theorem State.resetMachine_out (s : State) : s.resetMachine.out = State.reset.out := rfl
@[simp] theorem State.resetMachine_rgbaout (s : State) : s.resetMachine.rgbaout = State.reset.rgbaout := rfl
@[simp] theorem State.resetMachine_epoch (s : State) : s.resetMachine.epoch = s.epoch + 1 := rfl
@[simp] theorem State.resetMachine_host (s : State) : s.resetMachine.host = s.host := rfl

end Sys2Proof.Machine
end

