-- ==== Sys2Proof/Laws/Memory.lean ====
section
/-!
SUPPORT. The laws of a byte buffer: reading after writing, and that every operation keeps the canonical form.
-/

namespace Sys2Proof.Machine

@[simp] theorem Memory.at?_nil (a : Nat) : Memory.at? [] a = none := rfl

@[simp] theorem Memory.at?_put_same (m : Memory) (a : Nat) (b : Byte) : (Memory.put m a b).at? a = some b := by
  induction m with
  | nil => simp [Memory.put, Memory.at?]
  | cons cell m ih =>
    obtain ⟨k, c⟩ := cell
    rw [Memory.put]
    split
    · simp [Memory.at?]
    · split
      · simp [Memory.at?]
      · rename_i h
        simp [Memory.at?, h, ih]

theorem Memory.at?_put_other (m : Memory) {a a' : Nat} (b : Byte) (h : a' ≠ a) :
    (Memory.put m a b).at? a' = m.at? a' := by
  induction m with
  | nil => simp [Memory.put, Memory.at?, h]
  | cons cell m ih =>
    obtain ⟨k, c⟩ := cell
    rw [Memory.put]
    split
    · simp [Memory.at?, h]
    · split
      · rename_i hk
        simp [Memory.at?, ← hk, h]
      · simp [Memory.at?, ih]

theorem Memory.risingFrom_mono {lo lo' : Nat} (h : lo' ≤ lo) (m : Memory) (hm : m.risingFrom lo = true) :
    m.risingFrom lo' = true := by
  cases m with
  | nil => rfl
  | cons cell m =>
    obtain ⟨k, c⟩ := cell
    simp [Memory.risingFrom] at hm ⊢
    exact ⟨by omega, hm.2⟩

theorem Memory.risingFrom_put (m : Memory) (lo a : Nat) (b : Byte) (hlo : lo ≤ a) (hm : m.risingFrom lo = true) :
    (m.put a b).risingFrom lo = true := by
  induction m generalizing lo with
  | nil => simp [Memory.put, Memory.risingFrom, hlo]
  | cons cell m ih =>
    obtain ⟨k, c⟩ := cell
    simp only [Memory.risingFrom, Bool.and_eq_true, decide_eq_true_eq] at hm
    rw [Memory.put]
    split
    · simp [Memory.risingFrom, hlo, hm.2]; omega
    · split
      · rename_i hk
        subst hk
        simp [Memory.risingFrom, hm.1, hm.2]
      · have := ih (k + 1) (by omega) hm.2
        simp [Memory.risingFrom, hm.1, this]

theorem Memory.all_put (m : Memory) (a : Nat) (b : Byte) (size : Nat) (ha : a < size)
    (hm : (m.all fun cell => decide (cell.1 < size)) = true) :
    ((m.put a b).all fun cell => decide (cell.1 < size)) = true := by
  induction m with
  | nil => simp [Memory.put, ha]
  | cons cell m ih =>
    obtain ⟨k, c⟩ := cell
    simp only [List.all_cons, Bool.and_eq_true, decide_eq_true_eq] at hm
    rw [Memory.put]
    split
    · simp [ha, hm.1]; simpa using hm.2
    · split
      · simp [ha]; simpa using hm.2
      · simp [hm.1]; simpa using ih hm.2

/-- A write of a byte inside the buffer keeps the canonical form. -/
theorem Memory.wf_put {size : Nat} {m : Memory} (hm : m.wf size = true) {a : Nat} (ha : a < size) (b : Byte) :
    (m.put a b).wf size = true := by
  simp only [Memory.wf, Bool.and_eq_true] at hm ⊢
  exact ⟨Memory.risingFrom_put m 0 a b (Nat.zero_le a) hm.1, Memory.all_put m a b size ha hm.2⟩

@[simp] theorem Memory.wf_nil (size : Nat) : Memory.wf size [] = true := rfl

theorem Memory.risingFrom_range' (f : Nat → Byte) (n lo : Nat) :
    Memory.risingFrom lo ((List.range' lo n).map fun a => (a, f a)) = true := by
  induction n generalizing lo with
  | zero => rfl
  | succ n ih => simpa [List.range'_succ, Memory.risingFrom] using ih (lo + 1)

/-- A buffer written as a whole is canonical. -/
theorem Memory.wf_full (size : Nat) (f : Nat → Byte) : (Memory.full size f).wf size = true := by
  simp only [Memory.wf, Memory.full, Bool.and_eq_true]
  refine ⟨Memory.risingFrom_range' f size 0, ?_⟩
  simp [List.mem_range']

@[simp] theorem Memory.length_full (size : Nat) (f : Nat → Byte) : (Memory.full size f).length = size := by
  simp [Memory.full]

theorem Memory.complete_full (size : Nat) (f : Nat → Byte) : (Memory.full size f).complete size = true := by
  simp [Memory.complete, Memory.wf_full]

theorem Memory.at?_range' (f : Nat → Byte) (n lo a : Nat) :
    Memory.at? ((List.range' lo n).map fun a => (a, f a)) a = if lo ≤ a ∧ a < lo + n then some (f a) else none := by
  induction n generalizing lo with
  | zero => simp
  | succ n ih =>
    simp only [List.range'_succ, List.map_cons, Memory.at?, ih]
    by_cases h : a = lo
    · subst h; simp
    · simp only [h, if_false]
      congr 1
      simp only [eq_iff_iff]
      omega

/-- The buffers are canonical after reset. -/
theorem State.reset_buffers_wf (size : Nat) : State.reset.src.wf size = true ∧ State.reset.pi1in.wf size = true ∧
    State.reset.out.wf size = true ∧ State.reset.rgbaout.wf size = true := ⟨rfl, rfl, rfl, rfl⟩

/-- Reading a buffer written as a whole. -/
theorem Memory.at?_full (size : Nat) (f : Nat → Byte) (a : Nat) :
    (Memory.full size f).at? a = if a < size then some (f a) else none := by
  simp [Memory.full, Memory.at?_range']

end Sys2Proof.Machine
end

