-- ==== Sys2Proof/Laws/Num.lean ====
section
/-!
SUPPORT. The small lemmas of the numbers, channels, tables and palettes.
-/

namespace Sys2Proof.Machine

@[simp] theorem Numeric.exact_add (a b : Num) : Numeric.exact.add a b = a + b := rfl
@[simp] theorem Numeric.exact_sub (a b : Num) : Numeric.exact.sub a b = a - b := rfl
@[simp] theorem Numeric.exact_mul (a b : Num) : Numeric.exact.mul a b = a * b := rfl
@[simp] theorem Numeric.exact_div (a b : Num) : Numeric.exact.div a b = a / b := rfl
@[simp] theorem Numeric.exact_rhu (v : Num) : Numeric.exact.rhu v = (v + 1 / 2).floor := rfl

/-- The floor `rhu` takes is Mathlib's. -/
theorem num_floor_eq (q : Num) : q.floor = ⌊q⌋ := rfl

/-- A clamp of a value already in range is that value. -/
theorem clamp_of_mem {v lo hi : Num} (h₁ : lo ≤ v) (h₂ : v ≤ hi) : clamp v lo hi = v := by
  simp [clamp, max_eq_right h₁, min_eq_right h₂]

@[ext] theorem Chan.ext_val {a b : Chan} (h : a.val = b.val) : a = b := by
  cases a; cases b; cases h; rfl

@[simp] theorem Chan.clamp_val (v : Num) : (Chan.clamp v).val = Machine.clamp v 0 255 := rfl
@[simp] theorem Chan.ofByte_val (b : Byte) : (Chan.ofByte b).val = (b.toNat : Num) := rfl

theorem Chan.clamp_val_of_mem {v : Num} (h₁ : 0 ≤ v) (h₂ : v ≤ 255) : (Chan.clamp v).val = v :=
  clamp_of_mem h₁ h₂

@[simp] theorem Chan.clamp_self (c : Chan) : Chan.clamp c.val = c :=
  Chan.ext_val (clamp_of_mem c.lo c.hi)

theorem RGB.ext_get {a b : RGB} (h : ∀ k, a.get k = b.get k) : a = b := by
  cases a; cases b; simpa [RGB.get] using And.intro (h .r) (And.intro (h .g) (h .b))

@[simp] theorem RGB.get_ofFn (f : Channel → Chan) (k : Channel) : (RGB.ofFn f).get k = f k := by cases k <;> rfl
@[simp] theorem RGB.ofFn_get (c : RGB) : RGB.ofFn c.get = c := rfl

@[simp] theorem tabulate_getElem {α : Type} (n : Nat) (f : Nat → α) (i : Nat) (h : i < n) :
    (tabulate n f)[i] = f i := by
  simp [tabulate]

@[simp] theorem paletteEntry_paletteOf (f : Idx → RGB) (k : Idx) : paletteEntry (paletteOf f) k = f k := by
  simp [paletteEntry, paletteOf]

theorem palette_ext {P Q : Palette} (h : ∀ k, paletteEntry P k = paletteEntry Q k) : P = Q := by
  ext i hi : 1
  have := h (BitVec.ofNat 4 i)
  simpa [paletteEntry, Nat.mod_eq_of_lt hi] using this

@[simp] theorem paletteOf_paletteEntry (P : Palette) : paletteOf (paletteEntry P) = P :=
  palette_ext fun k => by simp

theorem idxAt_tabulate (f : Nat → Idx) (i : Nat) (h : i < 64000) : idxAt (tabulate 64000 f) i = f i := by
  simp [idxAt, h]

theorem idxRaster_ext {x y : IdxRaster} (h : ∀ i < 64000, idxAt x i = idxAt y i) : x = y := by
  ext i hi : 1
  simpa [idxAt, hi] using h i hi

end Sys2Proof.Machine
end

