-- ==== Sys2Proof/Laws/Ops.lean ====
section
/-!
SUPPORT. What each shared operation can do, said once: the end of a command, one pseudocode after another, the
issue of a word, a host move, a step.
-/

namespace Sys2Proof.Machine

/-! ### The end of a command -/

theorem command_ok {body : Body} {s t : State} (h : body s = .ok t) : command body s = .next t.complete := by
  simp [command, h]

theorem command_error {body : Body} {s : State} {e : ErrCode} (h : body s = .error e) :
    command body s = .next (s.raise e) := by
  simp [command, h]

/-- A command ends in a next state: completed, or the state it started from with the error in STATUS. -/
theorem command_cases (body : Body) (s : State) :
    (∃ t, body s = .ok t ∧ command body s = .next t.complete) ∨
    (∃ e, body s = .error e ∧ command body s = .next (s.raise e)) := by
  cases h : body s with
  | ok t => exact .inl ⟨t, rfl, command_ok h⟩
  | error e => exact .inr ⟨e, rfl, command_error h⟩

/-- The inversion of a command that answers `t`. -/
theorem command_next {body : Body} {s t : State} (h : command body s = .next t) :
    (∃ u, body s = .ok u ∧ t = u.complete) ∨ (∃ e, body s = .error e ∧ t = s.raise e) := by
  rcases command_cases body s with ⟨u, hb, hc⟩ | ⟨e, hb, hc⟩
  · rw [hc] at h; cases h; exact .inl ⟨u, hb, rfl⟩
  · rw [hc] at h; cases h; exact .inr ⟨e, hb, rfl⟩

/-! ### One pseudocode after another -/

theorem andThen_ok {f g : Body} {s t : State} (h : f s = .ok t) : Body.andThen f g s = g t := by
  simp [Body.andThen, h]

theorem andThen_error {f g : Body} {s : State} {e : ErrCode} (h : f s = .error e) :
    Body.andThen f g s = .error e := by
  simp [Body.andThen, h]

/-- Two pseudocodes in sequence give `u` when the first gives some `t` and the second gives `u` from it. -/
theorem andThen_eq_ok {f g : Body} {s u : State} (h : Body.andThen f g s = .ok u) :
    ∃ t, f s = .ok t ∧ g t = .ok u := by
  cases hf : f s with
  | ok t => exact ⟨t, rfl, by simpa [Body.andThen, hf] using h⟩
  | error e => simp [Body.andThen, hf] at h

/-! ### What two writes of one buffer come to -/

@[simp] theorem State.setWork_setWork (s : State) (v w : Work) : (s.setWork v).setWork w = s.setWork w := rfl

@[simp] theorem State.complete_complete (s : State) : s.complete.complete = s.complete := rfl

@[simp] theorem State.taking_taking (s : State) (r r' : List HostMove) : (s.taking r).taking r' = s.taking r' := rfl

/-! ### The issue of a word, a host move, a step -/

theorem issue_ok {v : Word} {i : Instr} (h : decode v = .ok i) (s : State) : issue v s = exec i s := by
  simp [issue, h]

theorem issue_error {v : Word} {e : DecodeError} (h : decode v = .error e) (s : State) :
    issue v s = .next (s.raise .badOpcode) := by
  simp [issue, h]

/-- A step takes the next pending host move, or leaves an idle machine as it is. -/
theorem step_cases (s : State) :
    (s.host.script = [] ∧ step s = .next s) ∨
    (∃ m rest, s.host.script = m :: rest ∧ step s = hostMove m (s.taking rest)) := by
  cases h : s.host.script with
  | nil => exact .inl ⟨rfl, by simp [step, hostStep, h]⟩
  | cons m rest => exact .inr ⟨m, rest, rfl, by simp [step, hostStep, h]⟩

/-- What a host register write that answers `t` has done. -/
theorem hostRegWrite_next {n : Nat} {v : Word} {s t : State} (h : hostRegWrite n v s = .next t) :
    (n = 0 ∧ issue v s = .next t) ∨ t = s ∨ t = { s with width := v } ∨ t = { s with height := v } ∨
    t = { s with options := .ofWord v } ∨ t = { s with inLen := v } ∨ (∃ i, t = s.setCpal i (cpalOfWord v)) := by
  unfold hostRegWrite at h
  split at h
  · exact .inl ⟨‹_›, h⟩
  · right
    repeat' (split at h)
    all_goals first
      | (cases h; exact .inr (.inr (.inr (.inr (.inr ⟨_, rfl⟩)))))
      | (cases h; simp)
      | cases h

/-- What a host byte write that answers `t` has done. -/
theorem hostBufWrite_next {S : Space} {a : Nat} {b : Byte} {s t : State} (h : hostBufWrite S a b s = .next t) :
    a < spaceSize s.params S ∧
      ((S = .src ∧ t = { s with src := s.src.put a b }) ∨ (S = .pi1in ∧ t = { s with pi1in := s.pi1in.put a b }) ∨
        ((S = .out ∨ S = .rgbaout) ∧ t = s)) := by
  unfold hostBufWrite at h
  split at h
  · refine ⟨‹_›, ?_⟩
    cases S <;> cases h <;> simp
  · cases h

/-- What a host read that answers `t` has done: only what it gives back changes. -/
theorem hostRegRead_next {n : Nat} {s t : State} (h : hostRegRead n s = .next t) :
    ∃ v, s.regRead? n = some v ∧ t = { s with host := { s.host with answer := .word v } } := by
  unfold hostRegRead at h
  split at h
  · cases h; exact ⟨_, ‹_›, rfl⟩
  · cases h

theorem hostBufRead_next {S : Space} {a : Nat} {s t : State} (h : hostBufRead S a s = .next t) :
    ∃ b, s.bufByte? S a = some b ∧ t = { s with host := { s.host with answer := .byte b } } := by
  unfold hostBufRead at h
  split at h
  · split at h
    · cases h; exact ⟨_, ‹_›, rfl⟩
    · cases h
  · cases h

end Sys2Proof.Machine
end

