-- ==== Sys2Proof/Laws/Commands.lean ====
section
/-!
SUPPORT. What each command's pseudocode can do, said once: the states it raises in, and its writes when it does not.
-/

namespace Sys2Proof.Machine

/-! ### The palette commands -/

theorem defpalBody_eq (s : State) : defpalBody s = .ok (s.setPal s.params.defaultPalette) := rfl

theorem setpalBody_eq (s : State) : setpalBody s = .ok (s.setPal s.customPalette) := rfl

theorem buildpalBody_ok {s : State} (h : s.overCapacity = false) :
    buildpalBody s = .ok (s.setPal (optimizedPalette s.params (s.samples s.width s.height))) := by
  simp [buildpalBody, h]

theorem buildpalBody_error {s : State} (h : s.overCapacity = true) : buildpalBody s = .error .capacity := by
  simp [buildpalBody, h]

theorem extpalBody_ok {s : State} (h : 34 ≤ s.inLen.toNat) : extpalBody s = .ok (s.setPal s.extractedPalette) := by
  simp [extpalBody, Nat.not_lt.2 h]

theorem extpalBody_error {s : State} (h : s.inLen.toNat < 34) : extpalBody s = .error .shortInput := by
  simp [extpalBody, h]

/-- A colour is in a palette exactly when some entry is it. -/
theorem hasColor_iff (P : Palette) (c : RGB) : hasColor P c = true ↔ ∃ i, paletteEntry P i = c := by
  simp only [hasColor, List.any_eq_true, beq_iff_eq]
  constructor
  · rintro ⟨x, hx, rfl⟩
    obtain ⟨i, hi, e⟩ := List.getElem_of_mem hx
    simp at hi e
    exact ⟨BitVec.ofNat 4 i, by simp [paletteEntry, Nat.mod_eq_of_lt hi, e]⟩
  · rintro ⟨i, rfl⟩
    exact ⟨_, by simp [paletteEntry], rfl⟩

/-- What one anchor test does to every entry. -/
theorem enforceAnchor_entry (anchor : RGB) (slot : Idx) (P : Palette) (i : Idx) :
    paletteEntry (enforceAnchor anchor slot P) i =
      if hasColor P anchor = true then paletteEntry P i else if i = slot then anchor else paletteEntry P i := by
  unfold enforceAnchor
  split <;> simp

/-- The palette of at least 16 samples, entry by entry. -/
theorem optimizedPalette_entry (p : Params) {S : List Rgb8} (h : 16 ≤ S.length) (i : Idx) :
    paletteEntry (optimizedPalette p S) i = quantizeExpand p.numeric
      (paletteEntry (enforceAnchors (fit16 p.defaultPalette (medianCut p.numeric 4 S))) i) := by
  simp [optimizedPalette, Nat.not_lt.2 h, quantizePalette]

/-- SELPAL's palette when its branch raises nothing. -/
def State.selectedPalette (s : State) : Palette :=
  if s.options.customValid then s.customPalette
  else if s.options.srcIsPi1 then s.extractedPalette
  else if s.options.useOpt then optimizedPalette s.params (s.samples s.width s.height)
  else s.params.defaultPalette

theorem selpalBody_ok {s : State} (h : s.selpalReady = true) : selpalBody s = .ok (s.setPal s.selectedPalette) := by
  unfold State.selpalReady at h
  unfold selpalBody State.selectedPalette
  cases hc : s.options.customValid
  · cases hp : s.options.srcIsPi1
    · cases hu : s.options.useOpt
      · simp [defpalBody]
      · simp [hc, hp, hu] at h
        simp [buildpalBody_ok h]
    · simp [hc, hp] at h
      simp [extpalBody_ok h]
  · simp [setpalBody]

/-- The inversion of SELPAL's pseudocode. -/
theorem selpalBody_eq_ok {s t : State} (h : selpalBody s = .ok t) : t = s.setPal s.selectedPalette := by
  unfold selpalBody defpalBody setpalBody extpalBody buildpalBody at h
  unfold State.selectedPalette
  repeat' (split at h)
  all_goals first | (cases h; done) | skip
  all_goals cases h; simp_all

/-! ### The working raster -/

theorem loadworkBody_ok {s : State} (h : s.overCapacity = false) : loadworkBody s = .ok (s.setWork s.loadedWork) := by
  simp [loadworkBody, h]

theorem loadworkBody_error {s : State} (h : s.overCapacity = true) : loadworkBody s = .error .capacity := by
  simp [loadworkBody, h]

theorem ditherBody_ok {s : State} (hl : s.options.ditherLevel.toNat ≤ 10) (hw : s.status.workValid = true)
    (hp : s.status.palValid = true) : ditherBody s = .ok (s.setWork s.ditheredWork) := by
  simp [ditherBody, Nat.not_lt.2 hl, hw, hp]

@[simp] theorem State.loadedWork_w (s : State) : s.loadedWork.w = s.width := rfl
@[simp] theorem State.loadedWork_h (s : State) : s.loadedWork.h = s.height := rfl
@[simp] theorem State.ditheredWork_w (s : State) : s.ditheredWork.w = s.work.w := rfl
@[simp] theorem State.ditheredWork_h (s : State) : s.ditheredWork.h = s.work.h := rfl

@[simp] theorem State.loadedWork_size (s : State) : s.loadedWork.pix.size = pixelCount s.width s.height := by
  simp [State.loadedWork]

theorem State.loadedWork_wf (s : State) : s.loadedWork.wf = true := by simp [Work.wf]

@[simp] theorem spread_size (n : Numeric) (W H : Nat) (e : Channel → Num) (tx ty : Int) (share : Num)
    (pix : Array RGB) : (spread n W H e tx ty share pix).size = pix.size := by
  unfold spread; split <;> simp

@[simp] theorem ditherPixel_size (n : Numeric) (P : Palette) (st : Num) (W H : Nat) (pix : Array RGB) (i : Nat) :
    (ditherPixel n P st W H pix i).size = pix.size := by
  simp [ditherPixel, spreadAll]

/-- The ditherer keeps the number of elements. -/
@[simp] theorem ditherPixels_size (n : Numeric) (P : Palette) (st : Num) (W H : Nat) (pix : Array RGB) :
    (ditherPixels n P st W H pix).size = pix.size := by
  unfold ditherPixels
  generalize List.range (W * H) = l
  induction l generalizing pix with
  | nil => rfl
  | cons i l ih => simp [ih]

theorem State.ditheredWork_wf {s : State} (h : s.work.wf = true) : s.ditheredWork.wf = true := by
  simpa [Work.wf, State.ditheredWork] using h

/-! ### Indices, outputs -/

theorem mapBody_ok {s : State} (hw : s.status.workValid = true) (hp : s.status.palValid = true) :
    mapBody s = .ok (s.setIdx s.mappedIdx) := by
  simp [mapBody, hw, hp]

theorem packBody_ok {s : State} (hi : s.status.idxValid = true) (hp : s.status.palValid = true) :
    packBody s = .ok (s.setOut s.packedOut) := by
  simp [packBody, hi, hp]

theorem previewBody_ok {s : State} (hi : s.status.idxValid = true) (hp : s.status.palValid = true) :
    previewBody s = .ok (s.setRgba (rgbaRaster s.params.numeric s.pal s.idx)) := by
  simp [previewBody, hi, hp]

theorem decodeBody_ok {s : State} (h : 32034 ≤ s.inLen.toNat) :
    decodeBody s = .ok (((s.setPal s.extractedPalette).setIdx s.decodedIdx).setRgba
      (rgbaRaster s.params.numeric s.extractedPalette s.decodedIdx)) := by
  simp [decodeBody, Nat.not_lt.2 h]

theorem decodeBody_error {s : State} (h : s.inLen.toNat < 32034) : decodeBody s = .error .shortInput := by
  simp [decodeBody, h]

/-! ### The whole conversion -/

/-- The working raster ENCODE maps: the loaded one, dithered if the level is above 0. -/
def State.encodedWork (s : State) : Work :=
  if 0 < s.options.ditherLevel.toNat then ((s.setPal s.selectedPalette).setWork s.loadedWork).ditheredWork
  else s.loadedWork

/-- The index raster ENCODE writes. -/
def State.encodedIdx (s : State) : IdxRaster := ((s.setPal s.selectedPalette).setWork s.encodedWork).mappedIdx

/-- The state ENCODE's pseudocode leaves when it raises nothing. -/
def State.encoded (s : State) : State :=
  ((((s.setPal s.selectedPalette).setWork s.encodedWork).setIdx s.encodedIdx).setOut
    (Memory.full 32034 (pi1FileByte s.params.numeric s.selectedPalette s.encodedIdx))).setRgba
    (rgbaRaster s.params.numeric s.selectedPalette s.encodedIdx)

/-- A state that passes ENCODE's checks passes those of the branch SELPAL takes. -/
theorem selpalReady_of_encodeReady {s : State} (h : s.encodeReady = true) : s.selpalReady = true := by
  unfold State.encodeReady at h
  unfold State.selpalReady
  cases hc : s.options.customValid <;> cases hp : s.options.srcIsPi1 <;> simp_all

theorem encodeReady_level {s : State} (h : s.encodeReady = true) : s.options.ditherLevel.toNat ≤ 10 := by
  simp [State.encodeReady] at h; exact h.1.1

theorem encodeReady_capacity {s : State} (h : s.encodeReady = true) : s.overCapacity = false := by
  simp [State.encodeReady] at h; exact h.1.2

theorem ditherIfAsked_loaded {s : State} (h : s.encodeReady = true) :
    ditherIfAsked ((s.setPal s.selectedPalette).setWork s.loadedWork) =
      .ok ((s.setPal s.selectedPalette).setWork s.encodedWork) := by
  have hl := encodeReady_level h
  unfold ditherIfAsked State.encodedWork
  by_cases hd : 0 < s.options.ditherLevel.toNat
  · simp only [State.setWork_options, State.setPal_options, hd, if_true]
    exact ditherBody_ok hl rfl rfl
  · simp [hd]

/-- ENCODE's steps, from a state that passes its checks. -/
theorem encodeSteps_ok {s : State} (h : s.encodeReady = true) : encodeSteps s = .ok s.encoded := by
  have hc : (s.setPal s.selectedPalette).overCapacity = false := encodeReady_capacity h
  unfold encodeSteps
  rw [andThen_ok (selpalBody_ok (selpalReady_of_encodeReady h)), andThen_ok (loadworkBody_ok hc)]
  show Body.andThen ditherIfAsked _ ((s.setPal s.selectedPalette).setWork s.loadedWork) = _
  rw [andThen_ok (ditherIfAsked_loaded h), andThen_ok (mapBody_ok rfl rfl), andThen_ok (packBody_ok rfl rfl),
    previewBody_ok rfl rfl]
  rfl

/-- ENCODE's pseudocode, from a state that passes its checks. -/
theorem encodeBody_ok {s : State} (h : s.encodeReady = true) : encodeBody s = .ok s.encoded := by
  rw [← encodeSteps_ok h]
  have hl := encodeReady_level h
  have hc := encodeReady_capacity h
  unfold encodeBody
  rw [if_neg (Nat.not_lt.2 hl), if_neg (by simp [hc]), if_neg]
  rintro ⟨h₁, h₂, h₃⟩
  simp [State.encodeReady, h₁, h₂] at h
  omega

/-- The inversion of ENCODE's pseudocode. -/
theorem encodeBody_eq_ok {s t : State} (h : encodeBody s = .ok t) : s.encodeReady = true ∧ t = s.encoded := by
  have hr : s.encodeReady = true := by
    unfold encodeBody at h
    split at h
    · cases h
    · split at h
      · cases h
      · split at h
        · cases h
        · rename_i h₁ h₂ h₃
          simp only [State.encodeReady, Bool.and_eq_true, decide_eq_true_eq, Bool.not_eq_true', Bool.or_eq_true]
          refine ⟨⟨by omega, by simpa using h₂⟩, ?_⟩
          by_contra hn
          push Not at hn
          exact h₃ ⟨by simpa using hn.1.1, by simpa using hn.1.2, by omega⟩
  refine ⟨hr, ?_⟩
  rw [encodeBody_ok hr] at h
  cases h; rfl

@[simp] theorem State.encoded_params (s : State) : s.encoded.params = s.params := rfl
@[simp] theorem State.encoded_pal (s : State) : s.encoded.pal = s.selectedPalette := rfl
@[simp] theorem State.encoded_work (s : State) : s.encoded.work = s.encodedWork := rfl
@[simp] theorem State.encoded_idx (s : State) : s.encoded.idx = s.encodedIdx := rfl
@[simp] theorem State.encoded_out (s : State) :
    s.encoded.out = Memory.full 32034 (pi1FileByte s.params.numeric s.selectedPalette s.encodedIdx) := rfl
@[simp] theorem State.encoded_rgbaout (s : State) :
    s.encoded.rgbaout = rgbaRaster s.params.numeric s.selectedPalette s.encodedIdx := rfl
@[simp] theorem State.encoded_engine (s : State) : s.encoded.status.engine = s.status.engine := rfl
@[simp] theorem State.encoded_errSticky (s : State) : s.encoded.status.errSticky = s.status.errSticky := rfl

theorem State.encodedWork_dims (s : State) : s.encodedWork.w = s.width ∧ s.encodedWork.h = s.height := by
  unfold State.encodedWork; split <;> exact ⟨rfl, rfl⟩

/-! ### The commands -/

/-- The pseudocode of each command but RESET. -/
def bodyOf : Instr → Body
  | .nop => Body.skip
  | .defpal => defpalBody
  | .buildpal => buildpalBody
  | .extpal => extpalBody
  | .setpal => setpalBody
  | .selpal => selpalBody
  | .loadwork => loadworkBody
  | .dither => ditherBody
  | .map => mapBody
  | .pack => packBody
  | .preview => previewBody
  | .encode => encodeBody
  | .decode => decodeBody
  | .reset => Body.skip

/-- A command but RESET is its pseudocode, run to its end. -/
theorem exec_body {i : Instr} (h : i ≠ .reset) (s : State) : exec i s = command (bodyOf i) s := by
  cases i <;> first | rfl | exact absurd rfl h

theorem exec_reset (s : State) : exec .reset s = .next s.resetMachine := rfl

theorem exec_selpal_ok {s : State} (h : s.selpalReady = true) :
    exec .selpal s = .next (s.setPal s.selectedPalette).complete := command_ok (selpalBody_ok h)

theorem exec_loadwork_ok {s : State} (h : s.overCapacity = false) :
    exec .loadwork s = .next (s.setWork s.loadedWork).complete := command_ok (loadworkBody_ok h)

theorem exec_dither_ok {s : State} (hl : s.options.ditherLevel.toNat ≤ 10) (hw : s.status.workValid = true)
    (hp : s.status.palValid = true) : exec .dither s = .next (s.setWork s.ditheredWork).complete :=
  command_ok (ditherBody_ok hl hw hp)

theorem exec_map_ok {s : State} (hw : s.status.workValid = true) (hp : s.status.palValid = true) :
    exec .map s = .next (s.setIdx s.mappedIdx).complete := command_ok (mapBody_ok hw hp)

theorem exec_pack_ok {s : State} (hi : s.status.idxValid = true) (hp : s.status.palValid = true) :
    exec .pack s = .next (s.setOut s.packedOut).complete := command_ok (packBody_ok hi hp)

theorem exec_preview_ok {s : State} (hi : s.status.idxValid = true) (hp : s.status.palValid = true) :
    exec .preview s = .next (s.setRgba (rgbaRaster s.params.numeric s.pal s.idx)).complete :=
  command_ok (previewBody_ok hi hp)

theorem exec_encode_ok {s : State} (h : s.encodeReady = true) : exec .encode s = .next s.encoded.complete :=
  command_ok (encodeBody_ok h)

theorem exec_decode_ok {s : State} (h : 32034 ≤ s.inLen.toNat) :
    exec .decode s = .next (((s.setPal s.extractedPalette).setIdx s.decodedIdx).setRgba
      (rgbaRaster s.params.numeric s.extractedPalette s.decodedIdx)).complete := command_ok (decodeBody_ok h)

end Sys2Proof.Machine
end

