-- ==== Sys2Proof/Laws/PerInstr.lean ====
section
/-!
SUPPORT. What holds of every command as syntax, one lemma per constructor: its word is a well-formed command word
with a zero upper field (`30_encoding.md` R100, R102), and the decoder reads the command from it.
-/

namespace Sys2Proof.Laws.Encoding

/-- The command is well formed, its word is its opcode alone, and the word's bits are a table row's. -/
def Statement (i : Instr) : Prop :=
  i.wellFormed = true ∧ (CmdWord.ofWord (encode i)).toWord = encode i ∧
    decodeTableWord 32 (encode i).toNat = some i

theorem nop : Statement .nop := by unfold Statement; decide
theorem defpal : Statement .defpal := by unfold Statement; decide
theorem buildpal : Statement .buildpal := by unfold Statement; decide
theorem extpal : Statement .extpal := by unfold Statement; decide
theorem setpal : Statement .setpal := by unfold Statement; decide
theorem selpal : Statement .selpal := by unfold Statement; decide
theorem loadwork : Statement .loadwork := by unfold Statement; decide
theorem dither : Statement .dither := by unfold Statement; decide
theorem map : Statement .map := by unfold Statement; decide
theorem pack : Statement .pack := by unfold Statement; decide
theorem preview : Statement .preview := by unfold Statement; decide
theorem encode : Statement .encode := by unfold Statement; decide
theorem decode : Statement .decode := by unfold Statement; decide
theorem reset : Statement .reset := by unfold Statement; decide

end Sys2Proof.Laws.Encoding
end

