-- ==== Sys2Proof/Tests/Slice0.lean ====
section
/-!
SUPPORT. Tests of the model against the spec's own vectors (`95_test_vectors.md`, and the examples of the command
rules), ill-formed words for each check of WellFormed.lean, and the witnesses of the obligations' hypotheses.
-/

namespace Sys2Proof.Tests

open Sys2Proof Sys2Proof.Machine

-- One theorem at a time: checked side by side, their threads' stacks come near the build's memory limit.
set_option Elab.async false

/-! ### States the tests start from -/

def rgb (r g b : Nat) : Rgb8 := ⟨BitVec.ofNat 8 r, BitVec.ofNat 8 g, BitVec.ofNat 8 b⟩

/-- R161: `TESTPAL`. -/
def testColors : List Rgb8 :=
  [rgb 0 0 0, rgb 255 255 255, rgb 255 0 0, rgb 0 255 0, rgb 0 0 255, rgb 255 255 0, rgb 0 255 255, rgb 255 0 255]
    ++ [rgb 128 128 128, rgb 192 192 192, rgb 128 0 0, rgb 0 128 0, rgb 0 0 128, rgb 128 128 0, rgb 0 128 128,
      rgb 128 0 128]

def testpal : Palette := paletteOf fun i => .ofRgb8 (testColors.getD i.toNat (rgb 0 0 0))

/-- "BW" of `95_test_vectors.md`: black, white, then fourteen times black. -/
def bw : Palette := paletteOf fun i => if i = 1 then .white else .black

/-- The reset state with `DEFAULT_PALETTE = TESTPAL`. -/
def base : State := { State.reset with params := { Params.reference with defaultPalette := testpal } }

def bytesOf (b : List Nat) : Memory := Memory.full b.length fun a => BitVec.ofNat 8 (b.getD a 0)

def withSource (w h : Nat) (bytes : List Nat) (s : State) : State :=
  { s with width := BitVec.ofNat 32 w, height := BitVec.ofNat 32 h, src := bytesOf bytes }

/-- A loaded raster of grays, a palette and a dither level. -/
def withRaster (w h level : Nat) (p : Palette) (gray : List Nat) (s : State) : State :=
  let pix := (gray.map fun g => RGB.ofRgb8 (rgb g g g)).toArray
  let t := (s.setPal p).setWork { w := BitVec.ofNat 32 w, h := BitVec.ofNat 32 h, pix := pix }
  { t with options := { t.options with ditherLevel := BitVec.ofNat 4 level } }

/-- `TESTPAL` active, index `k` at element `n` and 0 elsewhere. -/
def withIndex (n : Nat) (k : Idx) (s : State) : State :=
  (s.setPal testpal).setIdx (tabulate canvasPixels fun i => if i = n then k else 0)

/-- What `f` says of the next state. -/
def after {α : Type} (o : Host.Outcome State Fault Refusal) (f : State → α) : Option α :=
  match o with
  | .next t => some (f t)
  | .fault _ => none
  | .refused _ => none

def statusOf (s : State) : Nat := s.status.toWord.toNat
def words (s : State) : List Nat := s.pal.toList.map fun c => (rgbToAtariWord s.params.numeric c).toNat
def grays (s : State) : List Num := s.work.pix.toList.map fun c => c.r.val
def entry (s : State) (k : Idx) : Num × Num × Num :=
  ((paletteEntry s.pal k).r.val, (paletteEntry s.pal k).g.val, (paletteEntry s.pal k).b.val)
def outAt (s : State) (a : Nat) : Option Nat := (s.out.at? a).map BitVec.toNat
def rgbaAt (s : State) (a : Nat) : Option Nat := (s.rgbaout.at? a).map BitVec.toNat

/-! ### WellFormed: an ill-formed word for each check (R100, R102) -/

theorem test_zero_field_checked : (CmdWord.mk 1#24 0x0B#8).zeroOk = false ∧
    (CmdWord.mk 1#24 0x0B#8).wellFormed = false ∧ (CmdWord.mk 0x800000#24 0x00#8).wellFormed = false := by decide

theorem test_reserved_opcode_checked : (CmdWord.mk 0#24 0x0D#8).opcodeOk = false ∧
    (CmdWord.mk 0#24 0x0D#8).wellFormed = false ∧ (CmdWord.mk 0#24 0x0E#8).wellFormed = false ∧
    (CmdWord.mk 0#24 0x10#8).wellFormed = false ∧ (CmdWord.mk 0#24 0xFF#8).wellFormed = false := by decide

/-! ### Decode: words written out field by field, ZERO then OPCODE (R100, R101) -/

theorem test_decode_system : decode (0b000000000000000000000000#24 ++ 0b00000000#8) = .ok .nop ∧
    decode (0b000000000000000000000000#24 ++ 0b00001111#8) = .ok .reset := by decide

theorem test_decode_palette : decode (0b000000000000000000000000#24 ++ 0b00000001#8) = .ok .defpal ∧
    decode (0b000000000000000000000000#24 ++ 0b00000010#8) = .ok .buildpal ∧
    decode (0b000000000000000000000000#24 ++ 0b00000011#8) = .ok .extpal ∧
    decode (0b000000000000000000000000#24 ++ 0b00000100#8) = .ok .setpal ∧
    decode (0b000000000000000000000000#24 ++ 0b00000101#8) = .ok .selpal := by decide

theorem test_decode_raster : decode (0b000000000000000000000000#24 ++ 0b00000110#8) = .ok .loadwork ∧
    decode (0b000000000000000000000000#24 ++ 0b00000111#8) = .ok .dither := by decide

theorem test_decode_pack : decode (0b000000000000000000000000#24 ++ 0b00001000#8) = .ok .map ∧
    decode (0b000000000000000000000000#24 ++ 0b00001001#8) = .ok .pack ∧
    decode (0b000000000000000000000000#24 ++ 0b00001010#8) = .ok .preview ∧
    decode (0b000000000000000000000000#24 ++ 0b00001011#8) = .ok .encode ∧
    decode (0b000000000000000000000000#24 ++ 0b00001100#8) = .ok .decode := by decide

theorem test_decode_reserved : decode 0x0000000D#32 = .error .reservedOpcode ∧
    decode 0x000000FF#32 = .error .reservedOpcode ∧ decode 0x0000010B#32 = .error .zeroFieldNotZero ∧
    decode 0x80000000#32 = .error .zeroFieldNotZero := by decide

/-- A row may be given fewer bits than a word; the bits above are 0. -/
theorem test_table_words : decodeTableWord 32 0x0000000B = some .encode ∧ decodeTableWord 8 0x0F = some .reset ∧
    decodeTableWord 32 0x0000010B = none := by decide

/-- A placed word is what the very next step runs, from reset (V-SYS-1: ENCODE after reset gives 0x7D). -/
theorem test_place_encode : after (step (State.reset.withFetchWord 32 0x0B)) statusOf = some 0x7D := by decide +kernel

/-! ### Colour model -/

/-- V-CM-1, both values of `NUMERIC` (R148: byte inputs give the same integers). -/
theorem test_quantize_classes (n : Numeric) :
    [0, 18, 19, 54, 55, 91, 92, 127, 128, 163, 164, 200, 201, 236, 237, 255].map
      (fun v => (quantizeChannel n (.ofByte (BitVec.ofNat 8 v))).toNat) =
    [0, 0, 1, 1, 2, 2, 3, 3, 4, 4, 5, 5, 6, 6, 7, 7] := by cases n <;> decide +kernel

/-- V-CM-1: the exact tie 255/2 rounds up. -/
theorem test_quantize_tie : quantizeChannel .exact (.clamp (255 / 2)) = 4#3 := by decide +kernel

/-- V-CM-2. -/
theorem test_words : [rgb 255 255 255, rgb 128 128 128, rgb 127 127 127, rgb 36 73 109, rgb 18 19 255, rgb 255 128 0].map
      (fun c => rgbToAtariWord .exact (.ofRgb8 c)) =
    [0x0777#16, 0x0444#16, 0x0333#16, 0x0123#16, 0x0017#16, 0x0740#16] := by decide +kernel

/-- V-CM-5. -/
theorem test_nearest : [rgb 100 100 100, rgb 128 0 0, rgb 200 200 0, rgb 64 64 64, rgb 160 160 160, rgb 255 128 0].map
      (fun c => nearestColorIndex .exact (.ofRgb8 c) testpal) = [8#4, 10#4, 5#4, 0#4, 8#4, 5#4] := by decide +kernel

/-- R10: IEEE 754 doubles nearest to 1/10 and to 1/3 (their known significands). -/
theorem test_binary64 : roundBinary64 (1 / 10) = 3602879701896397 / 36028797018963968 ∧
    roundBinary64 (1 / 3) = 6004799503160661 / 18014398509481984 := by decide +kernel

/-! ### Palette commands -/

/-- R162's example. -/
theorem test_defpal : after (exec .defpal base) (entry · 8) = some (128, 128, 128) := by decide +kernel

/-- The source of V-PAL-1. -/
def source1 : List Nat := (List.range 16).flatMap fun i => [10 * i + 5, 250 - 15 * i, (7 * i * i) % 256, 255]

theorem test_buildpal_no_anchors : after (exec .buildpal (withSource 4 4 source1 base)) words =
    some [0x000, 0x777, 0x332, 0x242, 0x060, 0x070, 0x161, 0x162, 0x413, 0x424, 0x153, 0x255, 0x335, 0x327, 0x245, 0x247] := by
  decide +kernel

/-- The source of V-PAL-2: alpha 128 and 129, 17 samples, black present, white averaged away. -/
def source2 : List Nat :=
  [200, 10, 10, 255, 200, 20, 10, 255, 200, 30, 10, 129, 200, 40, 10, 128, 10, 200, 10, 255]
    ++ [20, 200, 10, 255, 30, 200, 10, 255, 40, 200, 10, 0, 10, 10, 200, 255, 10, 20, 200, 255]
    ++ [10, 30, 200, 255, 10, 40, 200, 255, 100, 100, 100, 255, 100, 100, 100, 255, 100, 100, 100, 255]
    ++ [100, 100, 100, 255, 255, 255, 255, 255, 0, 0, 0, 255, 50, 60, 70, 255, 50, 60, 70, 127]

theorem test_buildpal_alpha : after (exec .buildpal (withSource 5 4 source2 base)) words =
    some [0x000, 0x777, 0x015, 0x015, 0x050, 0x150, 0x150, 0x015, 0x122, 0x500, 0x510, 0x510, 0x333, 0x333, 0x333, 0x555] := by
  decide +kernel

/-- V-EXT-1: a palette block; the resolution word and the bits outside the fields are ignored. -/
def header1 : List Nat :=
  [0xFF, 0xFF, 0x00, 0x00, 0xFF, 0xFF, 0x07, 0x00, 0x00, 0x70, 0x00, 0x07, 0x03, 0x33, 0x05, 0x55, 0x01, 0x11]
    ++ List.replicate 16 0

theorem test_extpal : after (exec .extpal { base with inLen := 34, pi1in := bytesOf header1 })
      (fun s => (entry s 1, entry s 5, entry s 7, entry s 8)) =
    some ((255, 255, 255), (765 / 7, 765 / 7, 765 / 7), (255 / 7, 255 / 7, 255 / 7), (0, 0, 0)) := by decide +kernel

theorem test_extpal_short : after (exec .extpal { base with inLen := 33 }) statusOf = some 0x00010102 := by decide

/-- V-SET-1. -/
theorem test_setpal : after (hostRegWrite 18 0xABFF8000#32 base)
      (fun s => (s.regRead? 18, after (exec .setpal s) (entry · 2))) =
    some (some 0x00FF8000#32, some (255, 128, 0)) := by decide +kernel

/-- V-SEL-1: with OPTIONS = 0x20 and IN_LEN = 0 no error is raised; with 0x50 the extracted branch raises. -/
theorem test_selpal : after (exec .selpal { base with options := .ofWord 0x20#32 }) statusOf = some 0x00000005 ∧
    after (exec .selpal { base with options := .ofWord 0x50#32 }) statusOf = some 0x00010102 := by decide +kernel

/-! ### The working raster -/

/-- V-LOAD-1. -/
theorem test_loadwork : after (exec .loadwork (withSource 2 1 [0x64, 0x64, 0x64, 0xFF, 0xC8, 0xC8, 0xC8, 0x00] base))
      (fun s => (s.work.w, s.work.h, grays s)) = some (2#32, 1#32, [100, 200]) := by decide +kernel

/-- V-LOAD-1: 320 × 201 and 65536 × 65536 are too large, a negative width is no error. -/
theorem test_loadwork_capacity :
    after (exec .loadwork (withSource 320 201 [] base)) statusOf = some 0x00010402 ∧
    after (exec .loadwork (withSource 65536 65536 [] base)) statusOf = some 0x00010402 ∧
    after (exec .loadwork (withSource 0x80000000 5 [] base)) statusOf = some 0x00000009 := by decide +kernel

/-- V-DITH-2. -/
theorem test_dither_half : after (exec .dither (withRaster 3 2 5 bw [100, 100, 100, 100, 100, 100] base)) grays =
    some [0, 0, 0, 0, 255, 0] := by decide +kernel

/-- V-DITH-5: the clamp is per addition. -/
theorem test_dither_clamps_each : after (exec .dither (withRaster 3 2 10 bw [0, 0, 100, 200, 255, 100] base)) grays =
    some [0, 0, 0, 255, 255, 0] := by decide +kernel

/-! ### Indices and outputs -/

/-- R210's example, and the pixels just outside the source. -/
theorem test_map : after (exec .map ((base.setPal testpal).setWork ⟨2#32, 1#32, #[.ofRgb8 (rgb 255 0 0), .ofRgb8 (rgb 0 0 200)]⟩))
      (fun s => [0, 1, 2, 320].map (idxAt s.idx)) = some [2#4, 4#4, 0#4, 0#4] := by decide +kernel

/-- R218, V-PACK-4: the header's end and the plane bits of pixel 0 with index 5. -/
theorem test_pack : after (exec .pack (withIndex 0 5#4 base)) (fun s => [1, 4, 5, 32, 33, 34, 35, 74].map (outAt s)) =
    some [some 0x00, some 0x07, some 0x77, some 0x04, some 0x04, some 0x80, some 0x00, some 0x00] := by
  decide +kernel

/-- V-PREV-1. -/
theorem test_preview : after (exec .preview (withIndex 0 9#4 base)) (fun s => [0, 1, 2, 3, 4, 7].map (rgbaAt s)) =
    some [some 0xC0, some 0xC0, some 0xC0, some 0xFF, some 0x00, some 0xFF] := by decide +kernel

/-- Program P1: a whole conversion with a custom palette. -/
def program1 : State :=
  { withSource 2 2 [250, 10, 10, 255, 10, 10, 250, 0, 130, 130, 130, 255, 255, 255, 0, 255] base with
    options := .ofWord 0x30#32
    cpal := tabulate 16 fun i => testColors.getD i (rgb 0 0 0) }

theorem test_encode : after (exec .encode program1)
      (fun s => (statusOf s, [5, 34, 74].map (outAt s), [0, 1, 3, 4, 6].map (rgbaAt s))) =
    some (0x7D, [some 0x77, some 0x00, some 0x40], [some 0xFF, some 0x00, some 0xFF, some 0x00, some 0xFF]) := by
  decide +kernel

/-- V-ERR-1: ERR_BAD_OPTION before ERR_CAPACITY, ERR_CAPACITY before ERR_SHORT_INPUT. -/
theorem test_encode_priority :
    after (exec .encode { withSource 320 201 [] base with options := .ofWord 0x5B#32 }) statusOf = some 0x00010302 ∧
    after (exec .encode { withSource 320 201 [] base with options := .ofWord 0x50#32 }) statusOf = some 0x00010402 := by
  decide +kernel

/-- R247, V-DEC-1: the bytes its pixels 0 and 1 and its entries 1 and 2 are read from. -/
def input1 : State :=
  { base with
    inLen := 32034
    pi1in := [(4, 7), (5, 0x77), (6, 7), (7, 0), (34, 0x40), (8034, 0xC0), (16034, 0), (24034, 0)] }

theorem test_decode : after (exec .decode input1) (fun s => (idxAt s.idx 0, idxAt s.idx 1, entry s 1, entry s 2)) =
    some (2#4, 3#4, (255, 255, 255), (255, 0, 0)) := by decide +kernel

/-- V-DEC-3. -/
theorem test_decode_short : after (exec .decode { base with inLen := 32033 }) statusOf = some 0x00010102 := by decide

/-! ### System commands and host accesses -/

/-- V-SYS-1: NOP clears ERROR and ERRCODE but not ERR_STICKY. -/
theorem test_nop : after (exec .nop (base.raise .shortInput)) statusOf = some 0x00010001 := by decide

/-- R251's example. -/
theorem test_reset : after (exec .reset { base.raise .uninit with options := .ofWord 0x0B#32 })
      (fun s => (s.regRead? 1, s.regRead? 4)) = some (some 0#32, some 0x00000010#32) := by decide

/-- V-ERR-1: a reserved word, and ENCODE's opcode with a non-zero upper field. -/
theorem test_reserved_word_raises : after (hostRegWrite 0 0x0000000D#32 base) statusOf = some 0x00010202 ∧
    after (hostRegWrite 0 0x0000010B#32 base) statusOf = some 0x00010202 := by decide

/-- R72, R292: a write to OUT is ignored and a read of it before it is written is refused. -/
theorem test_out_access : hostBufWrite .out 5 1#8 base = .next base ∧
    hostBufRead .out 5 base = .refused (.outputNeverWritten .out) := ⟨rfl, rfl⟩

/-! ### Witnesses: states and operands that meet the hypotheses of the obligations -/

/-- A state with a palette and a raster of two pixels, at the highest legal level. -/
def dithering : State := withRaster 2 1 10 bw [100, 200] base

/-- A state with indices and a palette. -/
def indexed : State := withIndex 63999 15#4 base

/-- A state with both outputs written. -/
def written : State :=
  (base.setOut (Memory.full 32034 fun _ => 0)).setRgba (Memory.full 256000 fun _ => 0)

theorem witness_base_inv : base.Inv := by
  refine ⟨by decide +kernel, rfl, rfl, rfl, rfl, rfl, ?_, ?_, fun _ => rfl, ?_⟩
  all_goals simp [base, State.reset, Status.reset]

/-- `written`, its STATUS being DONE as after the commands that write. -/
theorem witness_written_inv : written.complete.Inv := by
  refine ⟨by decide +kernel, rfl, rfl, ?_, ?_, rfl, ?_, ?_, ?_, ?_⟩
  · exact Memory.wf_full _ _
  · exact Memory.wf_full _ _
  · exact fun _ => Memory.complete_full _ _
  · exact fun _ => Memory.complete_full _ _
  · simp
  · simp

theorem witness_ReservedWordsRaise : (∀ i, decode 0x0000000D#32 ≠ .ok i) ∧ (∀ i, decode 0x0000000E#32 ≠ .ok i) ∧
    (∀ i, decode 0x00000010#32 ≠ .ok i) ∧ (∀ i, decode 0x00000100#32 ≠ .ok i) := by
  refine ⟨?_, ?_, ?_, ?_⟩ <;> intro i <;> cases i <;> decide

/-- A byte write, a command's word and a reserved word pending. -/
theorem witness_StepRunsDecodedCommand :
    { base with host := { script := [.bufWrite .src 0 7#8], answer := .nothing } }.host.script = .bufWrite .src 0 7#8 :: [] ∧
    (decode 0x00000007#32 = .ok .dither ∧ Instr.dither.wellFormed = true ∧
      (base.withCommand 0x00000007#32).host.script = .regWrite 0 0x00000007#32 :: []) ∧
    ((∀ i, decode 0x0000000D#32 ≠ .ok i) ∧
      (base.withCommand 0x0000000D#32).host.script = .regWrite 0 0x0000000D#32 :: []) :=
  ⟨rfl, ⟨rfl, rfl, rfl⟩, by intro i; cases i <;> decide, rfl⟩

theorem witness_IdleStepChangesNothing : base.host.script = [] := rfl

/-- A state with a NOP pending. -/
theorem witness_StepKeepsInvariant : ∃ s t : State, s.Inv ∧ step s = .next t ∧ s.host.script ≠ [] := by
  obtain ⟨a, b, c, d, e, f, g, h, i, j⟩ := witness_base_inv
  exact ⟨base.withCommand 0#32, _, ⟨a, b, c, d, e, f, g, h, i, j⟩, rfl, by simp [State.withCommand]⟩

theorem witness_StepKeepsParameters : ∃ t, step (base.withCommand 0x0000000B#32) = .next t :=
  ⟨_, exec_encode_ok (s := (base.withCommand 0x0000000B#32).taking []) (by decide +kernel)⟩

theorem witness_FailedCommandChangesOnlyStatus : ∃ t, exec .map base = .next t ∧ t.status.engine = .error .uninit :=
  ⟨_, rfl, rfl⟩

theorem witness_CompletionStatus : Instr.defpal ≠ .reset ∧
    ∃ t, exec .defpal (base.raise .uninit) = .next t ∧ ∀ e, t.status.engine ≠ .error e :=
  ⟨by decide, _, rfl, fun e => by simp⟩

/-- One command for each cause of R260 but the reserved word, and one with two causes. -/
theorem witness_ReportedErrorFollowsPriority : reported .decode base = some .shortInput ∧
    reported .dither { dithering with options := .ofWord 0x1B#32 } = some .badOption ∧
    reported .loadwork (withSource 64001 1 [] base) = some .capacity ∧ reported .pack base = some .uninit ∧
    reported .dither { base with options := .ofWord 0x1B#32 } = some .badOption ∧ reported .dither dithering = none := by
  decide +kernel

/-- Both sides of the equivalence: a read keeps the bit, RESET and the hardware reset clear it. -/
theorem witness_StickyClearedOnlyByReset : (base.raise .uninit).status.errSticky = true ∧
    after (hostMove (.regRead 1) (base.raise .uninit)) (·.status.errSticky) = some true ∧
    after (hostMove (.regWrite 0 0x0F#32) (base.raise .uninit)) (·.status.errSticky) = some false ∧
    after (hostMove .hardReset (base.raise .uninit)) (·.status.errSticky) = some false := by decide

theorem witness_ValidFlagsClearedOnlyByReset :
    (∃ t, exec .defpal base = .next t ∧ t.status.engine = .done ∧ (writeSet .defpal).pal = true) ∧
    (∃ t, hostMove (.regWrite 2 7#32) indexed = .next t ∧ indexed.status.idxValid = true) ∧
    base.status.workValid = false ∧ base.status.idxValid = false := ⟨⟨_, rfl, rfl, rfl⟩, ⟨_, rfl, rfl⟩, rfl, rfl⟩

theorem witness_CommandFrame : Instr.loadwork ≠ .reset ∧ ∃ t, exec .loadwork base = .next t :=
  ⟨by decide, _, rfl⟩

/-- STATE IDLE and DONE, and each error. -/
theorem witness_StatusWordLayout : base.status.engine.bits ≠ 2 ∧ base.complete.status.engine.bits ≠ 2 ∧
    ∀ e, (base.raise e).status.engine = .error e :=
  ⟨by decide, by decide, fun _ => rfl⟩

theorem witness_IgnoredHostAccesses : 32033 < spaceSize base.params .out ∧ 255999 < spaceSize base.params .rgbaout ∧
    (∃ v, base.regRead? 16 = some v) ∧ (∃ v, base.regRead? 31 = some v) ∧ (∃ v, base.regRead? 4 = some v) ∧
    (∃ t, hostRegWrite 31 7#32 base = .next t) ∧ ∃ t, hostRegRead 0 base = .next t :=
  ⟨by decide, by decide, ⟨_, rfl⟩, ⟨_, rfl⟩, ⟨_, rfl⟩, ⟨_, rfl⟩, _, rfl⟩

/-- A register of each range, at its ends. -/
theorem witness_RegisterWriteThenRead : [2, 3, 4, 5, 16, 31].map (fun n =>
      after (hostRegWrite n 0xFFFFFFFF#32 base) (fun t => t.regRead? n)) =
    [some (some 0xFFFFFFFF#32), some (some 0xFFFFFFFF#32), some (some 0x0000007F#32), some (some 0xFFFFFFFF#32),
      some (some 0x00FFFFFF#32), some (some 0x00FFFFFF#32)] := by decide

theorem witness_OutOfRangeAccessesRefused : (31 < 32) ∧ spaceSize base.params .src = 256000 ∧
    spaceSize base.params .pi1in ≤ 32034 ∧ hostRegRead 32 base = .refused (.noSuchRegister 32) ∧
    hostBufRead .pi1in 32034 base = .refused (.noSuchOffset .pi1in 32034) := ⟨by decide, rfl, by decide, rfl, rfl⟩

/-- Both values of both flags. -/
theorem witness_OutputReadNeedsValidFlag : base.Inv ∧ base.status.outValid = false ∧ base.status.rgbaValid = false ∧
    written.complete.Inv ∧ written.complete.status.outValid = true ∧ written.complete.status.rgbaValid = true ∧
    32033 < 32034 ∧ 255999 < 256000 :=
  ⟨witness_base_inv, rfl, rfl, witness_written_inv, rfl, rfl, by decide, by decide⟩

theorem witness_ByteWriteThenRead : 255999 < spaceSize base.params .src ∧ 32033 < spaceSize base.params .pi1in := by decide

theorem witness_ReadsHaveNoSideEffect : base.regRead? 31 = some 0#32 ∧ 3 < spaceSize input1.params .pi1in ∧
    { base with pi1in := [(3, 9#8)] }.bufByte? .pi1in 3 = some 9#8 := by decide

/-- The highest threshold, on both its sides. -/
theorem witness_QuantizeThresholds : 6 < 7 ∧ ((237 : Num) < 255 ∧ (255 * (2 * 6 + 1) / 14 : Num) ≤ 237) ∧
    ¬ (255 * (2 * 6 + 1) / 14 : Num) ≤ 236 := by decide +kernel

theorem witness_QuantizeExpandRoundTrip : 0x0777#16 &&& 0xF888#16 = 0 := by decide

theorem witness_NearestIsFirstMinimum :
    (0#4) < nearestColorIndex .exact (.ofRgb8 (rgb 100 100 100)) testpal := by decide +kernel

/-- Fewer than 16 samples, and 16. -/
theorem witness_BuildpalCompletes : base.overCapacity = false ∧ (base.samples base.width base.height).length < 16 ∧
    (withSource 4 4 source1 base).overCapacity = false ∧
    16 ≤ ((withSource 4 4 source1 base).samples 4#32 4#32).length := by decide +kernel

/-- The source of V-PAL-7: black present, its mean at index 8 only. -/
def source7 : List Nat :=
  [0, 20, 0, 255, 0, 30, 0, 255, 0, 40, 0, 255, 0, 50, 0, 255, 0, 60, 0, 255, 0, 70, 0, 255, 0, 80, 0, 255]
    ++ [0, 90, 0, 255, 0, 100, 0, 255, 0, 0, 0, 255, 255, 0, 0, 255, 255, 0, 10, 255, 255, 0, 20, 255]
    ++ [255, 0, 30, 255, 255, 0, 40, 255, 255, 0, 50, 255]

/-- The source of V-PAL-6: white and one black. -/
def source6 : List Nat := (List.replicate 15 [255, 255, 255, 255]).flatten ++ [0, 0, 0, 255]

/-- The palette of a 4 × 4 source before the anchors are enforced. -/
def cut16 (source : List Nat) : Palette :=
  fit16 testpal (medianCut .exact 4 ((withSource 4 4 source base).samples 4#32 4#32))

/-- Both anchors absent. -/
theorem witness_BuildpalForcesAbsentAnchors : base.params.numeric = .exact ∧
    (withSource 4 4 source1 base).overCapacity = false ∧ 16 ≤ ((withSource 4 4 source1 base).samples 4#32 4#32).length ∧
    (∀ c ∈ (withSource 4 4 source1 base).samples 4#32 4#32, c ≠ ⟨0, 0, 0⟩) ∧
    (∀ c ∈ (withSource 4 4 source1 base).samples 4#32 4#32, c ≠ ⟨255, 255, 255⟩) := by decide +kernel

/-- Black at index 8 and white absent; black at index 0 and white at index 1. -/
theorem witness_BuildpalKeepsPresentAnchors :
    16 ≤ ((withSource 4 4 source7 base).samples 4#32 4#32).length ∧
    (paletteEntry (cut16 source7) 8 = .black ∧ hasColor (cut16 source7) .white = false) ∧
    16 ≤ ((withSource 4 4 source6 base).samples 4#32 4#32).length ∧
    (paletteEntry (cut16 source6) 0 = .black ∧ paletteEntry (cut16 source6) 1 = .white) := by decide +kernel

theorem witness_MedianCutGivesSixteen : 16 ≤ (List.replicate 16 (rgb 60 60 60)).length := by decide

/-- No dimension, and a negative one. -/
theorem witness_SamplesAreOpaquePixels : (0#32).toInt ≤ 0 ∧ (0xFFFFFFFF#32).toInt ≤ 0 := by decide

/-- A list for each channel, the ties between them going to R and to G. -/
theorem witness_MedianCutSplits : widestChannel [rgb 0 0 0, rgb 9 9 9] = .r ∧
    widestChannel [rgb 0 0 0, rgb 8 9 9] = .g ∧ widestChannel [rgb 0 0 0, rgb 9 8 10] = .b := by decide

theorem witness_MeanIsAverage : [rgb 100 100 100, rgb 255 255 255] ≠ [] := by decide

theorem witness_ExtpalReadsHeader : 34 ≤ { base with inLen := 34#32 }.inLen.toNat ∧
    { base with inLen := 33#32 }.inLen.toNat < 34 := by decide

theorem witness_SetpalLoadsCustom : base.regRead? (16 + (15#4).toNat) = some 0#32 := by decide

/-- Each of the four branches. -/
theorem witness_SelpalTakesOneBranch : { base with options := .ofWord 0x70#32 }.selpalReady = true ∧
    { base with options := .ofWord 0x50#32, inLen := 34#32 }.selpalReady = true ∧
    { base with options := .ofWord 0x10#32 }.selpalReady = true ∧
    { withSource 64001 1 [] base with options := .ofWord 0x00#32 }.selpalReady = true := by decide +kernel

/-- The largest source that fits, and the next one. -/
theorem witness_LoadworkLatchesSource : (withSource 320 200 [] base).overCapacity = false ∧
    (withSource 64001 1 [] base).overCapacity = true ∧ 63999 < (320#32).toInt.toNat * (200#32).toInt.toNat := by
  decide +kernel

theorem witness_DitherCompletes : dithering.options.ditherLevel.toNat ≤ 10 ∧ dithering.status.workValid = true ∧
    dithering.status.palValid = true ∧ dithering.work.wf = true ∧ 1 < dithering.work.pix.size := by decide

/-- The step at element 1 of a 3 × 2 raster: itself, its four neighbours 2, 3, 4, 5, and element 0, which is none. -/
theorem witness_DitherPixelSpreadsError : (Array.replicate 6 RGB.black).size = 3 * 2 ∧ 1 < 3 * 2 ∧ 5 < 3 * 2 ∧
    (1 % 3 + 1 < 3 ∧ 2 = 1 + 1) ∧ (0 < 1 % 3 ∧ 3 + 1 = 1 + 3) ∧ 4 = 1 + 3 ∧ (1 % 3 + 1 < 3 ∧ 5 = 1 + 3 + 1) := by decide

theorem witness_DitherIsIdempotent : dithering.params.numeric = .exact ∧ dithering.options.ditherLevel.toNat ≤ 10 ∧
    dithering.status.workValid = true ∧ dithering.status.palValid = true ∧ dithering.work.wf = true := by decide

theorem witness_DitherLevelZeroKeepsIndices : (withRaster 2 1 0 bw [100, 200] base).options.ditherLevel = 0 ∧
    (withRaster 2 1 0 bw [100, 200] base).params.numeric = .exact ∧
    (withRaster 2 1 0 bw [100, 200] base).status.workValid = true ∧
    (withRaster 2 1 0 bw [100, 200] base).status.palValid = true ∧
    (withRaster 2 1 0 bw [100, 200] base).work.wf = true := by decide

theorem witness_MapIndices : dithering.status.workValid = true ∧ dithering.status.palValid = true ∧
    base.status.workValid = false ∧ 319 < 320 ∧ 199 < 200 ∧ ((1 : Int) < dithering.work.w.toInt ∧ (0 : Int) < dithering.work.h.toInt) ∧
    ¬ ((2 : Int) < dithering.work.w.toInt) := by decide

theorem witness_PackPlaneBits : indexed.status.idxValid = true ∧ indexed.status.palValid = true ∧ 3 < 4 ∧ 319 < 320 ∧
    199 < 200 := by decide

theorem witness_PackHeader : indexed.status.idxValid = true ∧ indexed.status.palValid = true := by decide

theorem witness_PreviewPixels : indexed.status.idxValid = true ∧ indexed.status.palValid = true ∧ 63999 < 64000 ∧
    indexed.params.numeric = .exact ∧ base.status.idxValid = false := by decide

/-- Each of ENCODE's four clauses. -/
theorem witness_EncodeAllOrNothing :
    10 < { base with options := .ofWord 0x1B#32 }.options.ditherLevel.toNat ∧
    (base.options.ditherLevel.toNat ≤ 10 ∧ (withSource 64001 1 [] base).overCapacity = true) ∧
    ({ base with options := .ofWord 0x5A#32, inLen := 33#32 }.options.srcIsPi1 = true ∧
      { base with options := .ofWord 0x5A#32, inLen := 33#32 }.options.customValid = false ∧
      { base with options := .ofWord 0x5A#32, inLen := 33#32 }.inLen.toNat < 34 ∧ base.overCapacity = false) ∧
    { base with options := .ofWord 0x5A#32, inLen := 34#32 }.encodeReady = true := by decide +kernel

/-- ENCODE can run with the ditherer and without. -/
theorem witness_EncodeEqualsStepCommands : program1.encodeReady = true ∧
    { program1 with options := .ofWord 0x3A#32 }.encodeReady = true := by decide +kernel

/-- A zero width, and a negative height. -/
theorem witness_EncodeOfDegenerateSize : (withSource 0 5 [] base).encodeReady = true ∧
    (withSource 0 5 [] base).width.toInt ≤ 0 ∧ (withSource 5 0xFFFFFFFD [] base).encodeReady = true ∧
    (withSource 5 0xFFFFFFFD [] base).height.toInt ≤ 0 ∧ base.options = .reset := by decide +kernel

theorem witness_EncodeTwiceSameState : program1.encodeReady = true := by decide +kernel

/-- Two states that differ in hidden state alone, and ENCODE completes from both. -/
theorem witness_EncodeIgnoresHiddenState : base.pal ≠ (base.setPal testpal).pal ∧
    (∀ a, base.srcByte a = (base.setPal testpal).srcByte a) ∧ (∀ a, base.pi1Byte a = (base.setPal testpal).pi1Byte a) ∧
    ∃ t t', exec .encode base = .next t ∧ exec .encode (base.setPal testpal) = .next t' ∧ t.status.engine = .done :=
  ⟨by decide +kernel, fun _ => rfl, fun _ => rfl, _, _, exec_encode_ok (by decide +kernel), exec_encode_ok (by decide +kernel),
    rfl⟩

theorem witness_DecodeReadsPaletteAndPlanes : 32034 ≤ input1.inLen.toNat ∧
    { base with inLen := 32033#32 }.inLen.toNat < 32034 ∧ 3 < 4 ∧ 319 < 320 ∧ 199 < 200 := by decide

theorem witness_DecodePixels : 32034 ≤ { base with inLen := 40000#32 }.inLen.toNat ∧ 63999 < 64000 := by decide

theorem witness_PackDecodeRoundTrip : indexed.status.idxValid = true ∧ indexed.status.palValid = true := by decide

theorem witness_EncodeDecodeRoundTrip : program1.encodeReady = true := by decide +kernel

end Sys2Proof.Tests
end

section
/-!
PROOFS. The scope of the model (`00_scope.md`): every command terminates in a next state (R23, R301), and ENCODE's
result is a function of its inputs alone (R22, R88).
-/

namespace Sys2Proof.Machine

/-! ### Every command answers a next state -/

/-- Settles O12: RESET answers the reset state, and every other command is a pseudocode run to its end, which either
completes or raises. -/
theorem everyCommandAnswersNext : Obligations.EveryCommandAnswersNext := by
  intro i s
  by_cases hi : i = .reset
  · exact ⟨s.resetMachine, by rw [hi, exec_reset]⟩
  · rw [exec_body hi]
    rcases command_cases (bodyOf i) s with ⟨t, -, ht⟩ | ⟨e, -, he⟩
    · exact ⟨t.complete, ht⟩
    · exact ⟨s.raise e, he⟩

/-! ### ENCODE when one of its checks fails -/

/-- The error ENCODE raises in a state that does not pass its checks: the first cause in R222's order. -/
def State.encodeError (s : State) : ErrCode :=
  if 10 < s.options.ditherLevel.toNat then .badOption
  else if s.overCapacity then .capacity
  else .shortInput

theorem encodeBody_error {s : State} (h : s.encodeReady = false) : encodeBody s = .error s.encodeError := by
  cases hb : encodeBody s with
  | ok t => simp [(encodeBody_eq_ok hb).1] at h
  | error e =>
    have hshort : ¬ 10 < s.options.ditherLevel.toNat → ¬ s.overCapacity = true →
        s.options.customValid = false ∧ s.options.srcIsPi1 = true ∧ s.inLen.toNat < 34 := by
      intro hl hc
      simpa [State.encodeReady, Nat.not_lt.1 hl, hc, and_assoc] using h
    rw [← hb]
    unfold encodeBody State.encodeError
    split_ifs with hl hc hs
    · rfl
    · rfl
    · rfl
    · exact absurd (hshort hl hc) hs

theorem exec_encode_error {s : State} (h : s.encodeReady = false) :
    exec .encode s = .next (s.raise s.encodeError) := command_error (encodeBody_error h)

/-! ### What ENCODE reads -/

/-- The two states agree on all that ENCODE may depend on: the parameters, the host's registers and the bytes of the
two input buffers. STATUS, the hidden buffers and the outputs may differ, and so may how the bytes come to be there. -/
structure State.SameEncodeInputs (s s' : State) : Prop where
  params  : s.params = s'.params
  width   : s.width = s'.width
  height  : s.height = s'.height
  options : s.options = s'.options
  inLen   : s.inLen = s'.inLen
  cpal    : s.cpal = s'.cpal
  src     : s.srcByte = s'.srcByte
  pi1in   : s.pi1Byte = s'.pi1Byte

namespace State.SameEncodeInputs

variable {s s' : State}

theorem overCapacity_eq (h : s.SameEncodeInputs s') : s.overCapacity = s'.overCapacity := by
  simp only [State.overCapacity, h.params, h.width, h.height]

theorem encodeReady_eq (h : s.SameEncodeInputs s') : s.encodeReady = s'.encodeReady := by
  simp only [State.encodeReady, h.overCapacity_eq, h.options, h.inLen]

theorem encodeError_eq (h : s.SameEncodeInputs s') : s.encodeError = s'.encodeError := by
  simp only [State.encodeError, h.overCapacity_eq, h.options]

theorem srcPixel_eq (h : s.SameEncodeInputs s') : s.srcPixel = s'.srcPixel := by
  funext i
  simp only [State.srcPixel, h.src]

theorem srcAlpha_eq (h : s.SameEncodeInputs s') : s.srcAlpha = s'.srcAlpha := by
  funext i
  simp only [State.srcAlpha, h.src]

theorem samples_eq (h : s.SameEncodeInputs s') : s.samples = s'.samples := by
  unfold State.samples
  rw [h.srcAlpha_eq, h.srcPixel_eq]

theorem customPalette_eq (h : s.SameEncodeInputs s') : s.customPalette = s'.customPalette := by
  simp only [State.customPalette, State.cpalEntry, h.cpal]

theorem extractedPalette_eq (h : s.SameEncodeInputs s') : s.extractedPalette = s'.extractedPalette := by
  simp only [State.extractedPalette, State.pi1Word, h.params, h.pi1in]

theorem selectedPalette_eq (h : s.SameEncodeInputs s') : s.selectedPalette = s'.selectedPalette := by
  simp only [State.selectedPalette, h.customPalette_eq, h.extractedPalette_eq, h.samples_eq, h.params, h.width, h.height,
    h.options]

theorem loadedWork_eq (h : s.SameEncodeInputs s') : s.loadedWork = s'.loadedWork := by
  simp only [State.loadedWork, h.srcPixel_eq, h.width, h.height]

/-- The ditherer sees the palette and the raster ENCODE has just written, never the hidden ones it found. -/
theorem encodedWork_eq (h : s.SameEncodeInputs s') : s.encodedWork = s'.encodedWork := by
  simp [State.encodedWork, State.ditheredWork, State.strength, h.selectedPalette_eq, h.loadedWork_eq, h.params, h.options]

theorem encodedIdx_eq (h : s.SameEncodeInputs s') : s.encodedIdx = s'.encodedIdx := by
  simp [State.encodedIdx, State.mappedIdx, h.selectedPalette_eq, h.encodedWork_eq, h.params]

end State.SameEncodeInputs

/-- Settles O54: both states pass ENCODE's checks or neither does. If neither, both raise the same error; if both, every
buffer ENCODE writes is a function of the inputs they share. -/
theorem encodeIgnoresHiddenState : Obligations.EncodeIgnoresHiddenState := by
  intro s s' t t' hparams hwidth hheight hoptions hinLen hcpal hsrc hpi1 ht ht'
  have h : s.SameEncodeInputs s' := ⟨hparams, hwidth, hheight, hoptions, hinLen, hcpal, funext hsrc, funext hpi1⟩
  cases hr : s.encodeReady with
  | false =>
    rw [exec_encode_error hr] at ht
    rw [exec_encode_error (h.encodeReady_eq ▸ hr)] at ht'
    cases ht; cases ht'
    simp [h.encodeError_eq]
  | true =>
    rw [exec_encode_ok hr] at ht
    rw [exec_encode_ok (h.encodeReady_eq ▸ hr)] at ht'
    cases ht; cases ht'
    simp [h.selectedPalette_eq, h.encodedWork_eq, h.encodedIdx_eq, h.params]

end Sys2Proof.Machine
end


section
/-!
PROOFS. The state (`10_state.md`): what a command, a host move and a step leave unchanged (R41, R50, R88), the register
words and the accesses to them (R31 to R38), and the state after reset (R51).
-/

namespace Sys2Proof.Machine

/-! ### A command writes its write set -/

/-- `s` with the buffers of the write set `w` as in `u` and their valid flags set. -/
def State.overwrite (s : State) (w : Written) (u : State) : State :=
  { s with
    pal := if w.pal then u.pal else s.pal
    work := if w.work then u.work else s.work
    idx := if w.idx then u.idx else s.idx
    out := if w.out then u.out else s.out
    rgbaout := if w.rgba then u.rgbaout else s.rgbaout
    status :=
      { s.status with
        palValid := w.pal || s.status.palValid
        workValid := w.work || s.status.workValid
        idxValid := w.idx || s.status.idxValid
        outValid := w.out || s.status.outValid
        rgbaValid := w.rgba || s.status.rgbaValid } }

section
variable (s : State) (w : Written) (u : State)

@[simp] theorem State.overwrite_params : (s.overwrite w u).params = s.params := rfl
@[simp] theorem State.overwrite_palValid :
    (s.overwrite w u).status.palValid = (w.pal || s.status.palValid) := rfl
@[simp] theorem State.overwrite_workValid :
    (s.overwrite w u).status.workValid = (w.work || s.status.workValid) := rfl
@[simp] theorem State.overwrite_idxValid :
    (s.overwrite w u).status.idxValid = (w.idx || s.status.idxValid) := rfl
@[simp] theorem State.overwrite_outValid :
    (s.overwrite w u).status.outValid = (w.out || s.status.outValid) := rfl
@[simp] theorem State.overwrite_rgbaValid :
    (s.overwrite w u).status.rgbaValid = (w.rgba || s.status.rgbaValid) := rfl

end

/-- A checked pseudocode that raises nothing has passed its check. -/
theorem eq_of_ite_error_eq_ok {c : Prop} [Decidable c] {e : ErrCode} {r : Except ErrCode State} {t : State}
    (h : (if c then .error e else r) = .ok t) : r = .ok t := by
  by_cases hc : c
  · simp [hc] at h
  · simpa [hc] using h

/-- R88: a command's pseudocode that raises nothing writes the buffers of the write set, and sets their valid flags. -/
theorem bodyOf_eq_ok {i : Instr} {s t : State} (hi : i ≠ .reset) (h : bodyOf i s = .ok t) :
    t = s.overwrite (writeSet i) t := by
  cases i with
  | nop => cases h; rfl
  | defpal => cases h; rfl
  | buildpal => cases eq_of_ite_error_eq_ok h; rfl
  | extpal => cases eq_of_ite_error_eq_ok h; rfl
  | setpal => cases h; rfl
  | selpal => rw [selpalBody_eq_ok h]; rfl
  | loadwork => cases eq_of_ite_error_eq_ok h; rfl
  | dither => cases eq_of_ite_error_eq_ok (eq_of_ite_error_eq_ok h); rfl
  | map => cases eq_of_ite_error_eq_ok h; rfl
  | pack => cases eq_of_ite_error_eq_ok h; rfl
  | preview => cases eq_of_ite_error_eq_ok h; rfl
  | encode => rw [(encodeBody_eq_ok h).2]; rfl
  | decode => cases eq_of_ite_error_eq_ok h; rfl
  | reset => exact absurd rfl hi

/-- The inversion of a command but RESET: it has written its write set and completed, or raised an error. -/
theorem exec_next {i : Instr} {s t : State} (hi : i ≠ .reset) (h : exec i s = .next t) :
    (∃ u, t = (s.overwrite (writeSet i) u).complete) ∨ ∃ e, t = s.raise e := by
  rw [exec_body hi] at h
  rcases command_next h with ⟨u, hu, rfl⟩ | ⟨e, -, rfl⟩
  · exact .inl ⟨u, congrArg State.complete (bodyOf_eq_ok hi hu)⟩
  · exact .inr ⟨e, rfl⟩

/-- The inversion of the issue of a word: the command it decodes to, or ERR_BAD_OPCODE (R102). -/
theorem issue_next {v : Word} {s t : State} (h : issue v s = .next t) :
    (∃ i, decode v = .ok i ∧ exec i s = .next t) ∨ t = s.raise .badOpcode := by
  cases hd : decode v with
  | ok i => exact .inl ⟨i, rfl, issue_ok hd s ▸ h⟩
  | error e =>
    rw [issue_error hd] at h
    cases h; exact .inr rfl

/-! ### What a host move changes -/

/-- R78: a register write that is not the issue of a command changes neither the parameters, nor STATUS, nor a hidden
buffer, nor a readable byte, nor the host's side. -/
theorem hostRegWrite_frame {n : Nat} {v : Word} {s t : State} (hn : n ≠ 0) (h : hostRegWrite n v s = .next t) :
    t.params = s.params ∧ t.status = s.status ∧ t.pal = s.pal ∧ t.work = s.work ∧ t.idx = s.idx ∧
      (∀ S a, t.bufByte? S a = s.bufByte? S a) ∧ t.host = s.host := by
  rcases hostRegWrite_next h with ⟨h0, -⟩ | rfl | rfl | rfl | rfl | rfl | ⟨i, rfl⟩
  · exact absurd h0 hn
  all_goals exact ⟨rfl, rfl, rfl, rfl, rfl, fun _ _ => rfl, rfl⟩

/-- The inversion of a host move: the issue of a command, the hardware reset, or an access that touches neither the
parameters nor STATUS. -/
theorem hostMove_next {m : HostMove} {s t : State} (h : hostMove m s = .next t) :
    (∃ v, m = .regWrite 0 v ∧ issue v s = .next t) ∨ (m = .hardReset ∧ t = s.resetMachine) ∨
      (t.params = s.params ∧ t.status = s.status) := by
  cases m with
  | regRead n =>
    obtain ⟨v, -, rfl⟩ := hostRegRead_next h
    exact .inr (.inr ⟨rfl, rfl⟩)
  | regWrite n v =>
    by_cases hn : n = 0
    · subst hn
      exact .inl ⟨v, rfl, h⟩
    · obtain ⟨hparams, hstatus, -⟩ := hostRegWrite_frame hn h
      exact .inr (.inr ⟨hparams, hstatus⟩)
  | bufRead S a =>
    obtain ⟨b, -, rfl⟩ := hostBufRead_next h
    exact .inr (.inr ⟨rfl, rfl⟩)
  | bufWrite S a b =>
    obtain ⟨-, ⟨-, rfl⟩ | ⟨-, rfl⟩ | ⟨-, rfl⟩⟩ := hostBufWrite_next h
    all_goals exact .inr (.inr ⟨rfl, rfl⟩)
  | hardReset =>
    cases h
    exact .inr (.inl ⟨rfl, rfl⟩)

/-! ### The parameters -/

theorem exec_keeps_params {i : Instr} {s t : State} (h : exec i s = .next t) : t.params = s.params := by
  by_cases hi : i = .reset
  · subst hi
    cases h; simp
  · obtain ⟨u, rfl⟩ | ⟨e, rfl⟩ := exec_next hi h <;> simp

theorem hostMove_keeps_params {m : HostMove} {s t : State} (h : hostMove m s = .next t) : t.params = s.params := by
  rcases hostMove_next h with ⟨v, -, hv⟩ | ⟨-, rfl⟩ | ⟨hparams, -⟩
  · rcases issue_next hv with ⟨i, -, hi⟩ | rfl
    · exact exec_keeps_params hi
    · simp
  · simp
  · exact hparams

/-- Settles O11: a step makes no move or one host move, and a host move keeps the parameters. -/
theorem stepKeepsParameters : Obligations.StepKeepsParameters := by
  intro s t h
  rcases step_cases s with ⟨-, hs⟩ | ⟨m, rest, -, hs⟩
  · rw [hs] at h
    cases h; rfl
  · rw [hs] at h
    exact (hostMove_keeps_params h).trans (s.taking_params rest)

/-! ### The valid flags -/

/-- Every valid flag that is 1 in `a` is 1 in `b`. -/
def Status.FlagsKept (a b : Status) : Prop :=
  (a.palValid = true → b.palValid = true) ∧ (a.workValid = true → b.workValid = true) ∧
  (a.idxValid = true → b.idxValid = true) ∧ (a.outValid = true → b.outValid = true) ∧
  (a.rgbaValid = true → b.rgbaValid = true)

theorem Status.FlagsKept.of_eq {a b : Status} (h : b = a) : a.FlagsKept b := by
  subst h
  exact ⟨id, id, id, id, id⟩

theorem State.raise_keeps_flags (s : State) (e : ErrCode) : s.status.FlagsKept (s.raise e).status :=
  ⟨id, id, id, id, id⟩

theorem State.overwrite_keeps_flags (s : State) (w : Written) (u : State) :
    s.status.FlagsKept (s.overwrite w u).complete.status := by
  simp +contextual [Status.FlagsKept]

theorem exec_keeps_flags {i : Instr} {s t : State} (hi : i ≠ .reset) (h : exec i s = .next t) :
    s.status.FlagsKept t.status := by
  rcases exec_next hi h with ⟨u, rfl⟩ | ⟨e, rfl⟩
  · exact s.overwrite_keeps_flags (writeSet i) u
  · exact s.raise_keeps_flags e

/-- R41: no host move but a reset clears a valid flag. -/
theorem hostMove_keeps_flags {m : HostMove} {s t : State} (h : hostMove m s = .next t) (hm : m ≠ .hardReset)
    (hreset : ∀ v, m = .regWrite 0 v → decode v ≠ .ok .reset) : s.status.FlagsKept t.status := by
  rcases hostMove_next h with ⟨v, hv, hissue⟩ | ⟨hhard, -⟩ | ⟨-, hstatus⟩
  · rcases issue_next hissue with ⟨i, hd, hi⟩ | rfl
    · exact exec_keeps_flags (fun hr => hreset v hv (hr ▸ hd)) hi
    · exact s.raise_keeps_flags .badOpcode
  · exact absurd hhard hm
  · exact .of_eq hstatus

/-- R41: a command that completes has set the valid flags of its write set. -/
theorem exec_sets_flags {i : Instr} {s t : State} (hi : i ≠ .reset) (h : exec i s = .next t)
    (hdone : t.status.engine = .done) :
    ((writeSet i).pal = true → t.status.palValid = true) ∧ ((writeSet i).work = true → t.status.workValid = true) ∧
    ((writeSet i).idx = true → t.status.idxValid = true) ∧ ((writeSet i).out = true → t.status.outValid = true) ∧
    ((writeSet i).rgba = true → t.status.rgbaValid = true) := by
  rcases exec_next hi h with ⟨u, rfl⟩ | ⟨e, rfl⟩
  · simp +contextual
  · simp at hdone

theorem exec_dither_badOption {s : State} (h : 10 < s.options.ditherLevel.toNat) :
    exec .dither s = .next (s.raise .badOption) :=
  command_error (if_pos h)

theorem exec_dither_uninit {s : State} (hl : ¬ 10 < s.options.ditherLevel.toNat)
    (h : s.status.workValid = false ∨ s.status.palValid = false) : exec .dither s = .next (s.raise .uninit) :=
  command_error ((if_neg hl).trans (if_pos h))

theorem exec_map_uninit {s : State} (h : s.status.workValid = false ∨ s.status.palValid = false) :
    exec .map s = .next (s.raise .uninit) :=
  command_error (if_pos h)

theorem exec_pack_uninit {s : State} (h : s.status.idxValid = false ∨ s.status.palValid = false) :
    exec .pack s = .next (s.raise .uninit) :=
  command_error (if_pos h)

theorem exec_preview_uninit {s : State} (h : s.status.idxValid = false ∨ s.status.palValid = false) :
    exec .preview s = .next (s.raise .uninit) :=
  command_error (if_pos h)

/-- Settles O17: the flags that completion sets, the moves that keep them, and per command the check of the flags it
needs. -/
theorem validFlagsClearedOnlyByReset : Obligations.ValidFlagsClearedOnlyByReset := by
  refine ⟨fun i s t => exec_sets_flags, fun m s t => hostMove_keeps_flags, ?_⟩
  rintro i s (⟨rfl | rfl, h⟩ | ⟨rfl | rfl, h⟩)
  · by_cases hl : 10 < s.options.ditherLevel.toNat
    · simpa [hl] using exec_dither_badOption hl
    · simpa [hl] using exec_dither_uninit hl h
  · exact exec_map_uninit h
  · exact exec_pack_uninit h
  · exact exec_preview_uninit h

/-! ### The fields of a register word -/

/-- The bits of a field that stands at bit `p` of a register word. -/
theorem getLsbD_fieldAt {w : Nat} (x : BitVec w) (p i : Nat) :
    (fieldAt x p).getLsbD i = (decide (p ≤ i ∧ i < 32) && x.getLsbD (i - p)) := by
  by_cases hp : p ≤ i <;> by_cases hi : i < 32 <;> simp [fieldAt, hp, hi]

/-- A field is read back at its own place. -/
theorem extractLsb'_fieldAt {w : Nat} (x : BitVec w) (p : Nat) (h : p + w ≤ 32) :
    (fieldAt x p).extractLsb' p w = x := by
  refine BitVec.eq_of_getLsbD_eq fun i hi => ?_
  have hbit : p + i < 32 := by omega
  simp only [BitVec.getLsbD_extractLsb', getLsbD_fieldAt]
  simp [hi, hbit]

/-- A field reads 0 where it does not stand. -/
theorem extractLsb'_fieldAt_of_disjoint {w : Nat} (x : BitVec w) (p q k : Nat) (h : p + w ≤ q ∨ q + k ≤ p) :
    (fieldAt x p).extractLsb' q k = 0 := by
  refine BitVec.eq_of_getLsbD_eq fun i hi => ?_
  simp only [BitVec.getLsbD_extractLsb', getLsbD_fieldAt]
  by_cases hp : p ≤ q + i
  · simp [BitVec.getLsbD_of_ge x (q + i - p) (by omega)]
  · simp [hp]

/-- What is stored of a written word in a field at its own place: the word's bits there. -/
theorem fieldAt_extractLsb' (v : Word) (p w : Nat) :
    fieldAt (v.extractLsb' p w) p = v &&& fieldAt (BitVec.allOnes w) p := by
  refine BitVec.eq_of_getLsbD_eq fun i hi => ?_
  simp only [BitVec.getLsbD_and, getLsbD_fieldAt, BitVec.getLsbD_extractLsb', BitVec.getLsbD_allOnes]
  by_cases hp : p ≤ i
  · simp [hp, hi, Nat.add_sub_cancel' hp, Bool.and_comm]
  · simp [hp]

theorem ofBool_getLsbD (v : Word) (p : Nat) : BitVec.ofBool (v.getLsbD p) = v.extractLsb' p 1 := by
  refine BitVec.eq_of_getLsbD_eq fun i hi => ?_
  obtain rfl : i = 0 := by omega
  simp

/-- R35: OPTIONS keeps bits 6:0 of the word written to it. -/
theorem Options.toWord_ofWord (v : Word) : (Options.ofWord v).toWord = v &&& 0x0000007F#32 := by
  simp only [Options.toWord, Options.ofWord, ofBool_getLsbD, fieldAt_extractLsb', ← BitVec.and_or_distrib_left]
  rfl

/-- R38: a CPAL register keeps bits 23:0 of the word written to it. -/
theorem cpalToWord_cpalOfWord (v : Word) : cpalToWord (cpalOfWord v) = v &&& 0x00FFFFFF#32 := by
  simp only [cpalToWord, cpalOfWord, fieldAt_extractLsb', ← BitVec.and_or_distrib_left]
  rfl

/-! ### STATUS -/

theorem Status.state_toWord (s : Status) : s.toWord.extractLsb' 0 2 = s.engine.bits := by
  simp (disch := omega) [Status.toWord, BitVec.extractLsb'_or, extractLsb'_fieldAt, extractLsb'_fieldAt_of_disjoint]

theorem Status.errCode_toWord (s : Status) : s.toWord.extractLsb' 8 8 = s.engine.errCode := by
  simp (disch := omega) [Status.toWord, BitVec.extractLsb'_or, extractLsb'_fieldAt, extractLsb'_fieldAt_of_disjoint]

theorem Status.reserved_toWord (s : Status) : s.toWord.extractLsb' 17 15 = 0 := by
  simp (disch := omega) [Status.toWord, BitVec.extractLsb'_or, extractLsb'_fieldAt_of_disjoint]

/-- The bits of STATUS outside STATE and ERRCODE. -/
theorem Status.flags_toWord (s : Status) :
    s.toWord.getLsbD 2 = s.palValid ∧ s.toWord.getLsbD 3 = s.workValid ∧ s.toWord.getLsbD 4 = s.idxValid ∧
    s.toWord.getLsbD 5 = s.outValid ∧ s.toWord.getLsbD 6 = s.rgbaValid ∧ s.toWord.getLsbD 7 = false ∧
    s.toWord.getLsbD 16 = s.errSticky := by
  simp only [Status.toWord, BitVec.getLsbD_or, getLsbD_fieldAt]
  simp [BitVec.getLsbD_of_ge]

theorem EngineState.bits_ne_three (e : EngineState) : e.bits ≠ 3 := by
  cases e <;> simp [EngineState.bits]

theorem EngineState.errCode_of_bits_ne_two {e : EngineState} (h : e.bits ≠ 2) : e.errCode = 0 := by
  cases e with
  | idle => rfl
  | done => rfl
  | error c => exact absurd rfl h

/-- Settles O19: each field of STATUS is read at its own place, and the code of an error is its number in R260. -/
theorem statusWordLayout : Obligations.StatusWordLayout := by
  intro s
  obtain ⟨hpal, hwork, hidx, hout, hrgba, hbusy, hsticky⟩ := s.status.flags_toWord
  have hcode (e : ErrCode) (h : s.status.engine = .error e) : s.status.toWord.extractLsb' 8 8 = e.code := by
    rw [Status.errCode_toWord, h]
    rfl
  exact ⟨rfl, fun _ => rfl, s.status.state_toWord, s.status.engine.bits_ne_three, hpal, hwork, hidx, hout, hrgba, hbusy,
    s.status.errCode_toWord, EngineState.errCode_of_bits_ne_two, hcode .shortInput, hcode .badOpcode, hcode .badOption,
    hcode .capacity, hcode .uninit, hsticky, s.status.reserved_toWord⟩

/-! ### Register accesses -/

theorem State.cpalEntry_setCpal_same (s : State) (i : Idx) (c : Rgb8) : (s.setCpal i c).cpalEntry i = c := by
  simp [State.cpalEntry]

theorem State.cpalEntry_setCpal_other (s : State) {i j : Idx} (c : Rgb8) (h : i ≠ j) :
    (s.setCpal i c).cpalEntry j = s.cpalEntry j := by
  have hij : i.toNat ≠ j.toNat := fun e => h (BitVec.eq_of_toNat_eq e)
  simp [State.cpalEntry, hij]

/-- R31: registers 16 to 31 are the CPAL entries. -/
theorem State.regRead?_cpal (s : State) {n : Nat} (h₁ : 16 ≤ n) (h₂ : n ≤ 31) :
    s.regRead? n = some (cpalToWord (s.cpalEntry (BitVec.ofNat 4 (n - 16)))) := by
  unfold State.regRead?
  iterate 7 rw [if_neg (by omega)]
  rw [if_pos (by omega)]

theorem hostRegWrite_cpal (s : State) (v : Word) {n : Nat} (h₁ : 16 ≤ n) (h₂ : n ≤ 31) :
    hostRegWrite n v s = .next (s.setCpal (BitVec.ofNat 4 (n - 16)) (cpalOfWord v)) := by
  unfold hostRegWrite
  iterate 7 rw [if_neg (by omega)]
  rw [if_pos (by omega)]

/-- A register below 16 is not a CPAL entry. -/
theorem State.regRead?_setCpal_of_lt (s : State) (i : Idx) (c : Rgb8) {m : Nat} (h : m < 16) :
    (s.setCpal i c).regRead? m = s.regRead? m := by
  simp [State.regRead?, h]

theorem State.regRead?_of_gt (s : State) {m : Nat} (h : 31 < m) : s.regRead? m = none := by
  unfold State.regRead?
  iterate 8 rw [if_neg (by omega)]

/-- Writing one CPAL register changes no other register. -/
theorem State.regRead?_setCpal_other (s : State) (c : Rgb8) {n m : Nat} (h₁ : 16 ≤ n) (h₂ : n ≤ 31) (h : m ≠ n) :
    (s.setCpal (BitVec.ofNat 4 (n - 16)) c).regRead? m = s.regRead? m := by
  rcases lt_or_ge m 16 with hm | hm
  · exact s.regRead?_setCpal_of_lt _ c hm
  · rcases lt_or_ge 31 m with hm' | hm'
    · rw [State.regRead?_of_gt _ hm', State.regRead?_of_gt _ hm']
    · have hidx : BitVec.ofNat 4 (n - 16) ≠ BitVec.ofNat 4 (m - 16) := by
        intro e
        have := congrArg BitVec.toNat e
        simp only [BitVec.toNat_ofNat] at this
        omega
      rw [State.regRead?_cpal _ hm hm', State.regRead?_cpal _ hm hm', State.cpalEntry_setCpal_other _ _ hidx]

/-- R31, R35, R38: a written register reads the word without its reserved bits, and every other register as before. -/
theorem hostRegWrite_readback (s : State) (n : Nat) (v : Word) (hn : (2 ≤ n ∧ n ≤ 5) ∨ (16 ≤ n ∧ n ≤ 31)) :
    ∃ t, hostRegWrite n v s = .next t ∧
      t.regRead? n = some (if n = 4 then v &&& 0x0000007F#32 else if 16 ≤ n then v &&& 0x00FFFFFF#32 else v) ∧
      (∀ m, m ≠ n → t.regRead? m = s.regRead? m) := by
  rcases hn with ⟨h₁, h₂⟩ | ⟨h₁, h₂⟩
  · obtain rfl | rfl | rfl | rfl : n = 2 ∨ n = 3 ∨ n = 4 ∨ n = 5 := by omega
    all_goals refine ⟨_, rfl, ?_, fun m hm => by simp [State.regRead?, State.cpalEntry, hm]⟩
    · rfl
    · rfl
    · exact congrArg some (Options.toWord_ofWord v)
    · rfl
  · refine ⟨_, hostRegWrite_cpal s v h₁ h₂, ?_, fun m => s.regRead?_setCpal_other _ h₁ h₂⟩
    rw [State.regRead?_cpal _ h₁ h₂, State.cpalEntry_setCpal_same, cpalToWord_cpalOfWord, if_neg (by omega), if_pos h₁]

/-- Settles O21: what the registers read after the write, and the frame of a register write. -/
theorem registerWriteThenRead : Obligations.RegisterWriteThenRead := by
  intro s n v hn
  obtain ⟨t, ht, hsame, hother⟩ := hostRegWrite_readback s n v hn
  exact ⟨t, ht, hsame, hother, hostRegWrite_frame (by omega) ht⟩

/-! ### The state after reset -/

theorem State.reset_cpalEntry (i : Idx) : State.reset.cpalEntry i = ⟨0, 0, 0⟩ :=
  Vector.getElem_replicate _

theorem State.reset_regRead? {n : Nat} (hn : n < 32) :
    State.reset.regRead? n = some (if n = 4 then 0x00000010#32 else 0) := by
  rcases lt_or_ge n 16 with h | h
  · interval_cases n <;> rfl
  · rw [State.regRead?_cpal _ h (by omega), State.reset_cpalEntry, if_neg (by omega)]
    rfl

/-- Settles O7: with all valid flags 0 after reset, the four commands that read hidden state raise ERR_UNINIT. -/
theorem resetRegisterValues : Obligations.ResetRegisterValues := by
  refine ⟨fun n => State.reset_regRead?, rfl, rfl, rfl, rfl, rfl, rfl, rfl, fun a => ⟨rfl, rfl, rfl, rfl⟩, ?_⟩
  rintro i (rfl | rfl | rfl | rfl)
  · exact ⟨_, exec_dither_uninit (by decide) (.inl rfl), rfl⟩
  · exact ⟨_, exec_map_uninit (.inl rfl), rfl⟩
  · exact ⟨_, exec_pack_uninit (.inl rfl), rfl⟩
  · exact ⟨_, exec_preview_uninit (.inl rfl), rfl⟩

end Sys2Proof.Machine
end


section
/-!
PROOFS. The spaces and the accesses to them (`20_memory.md`): what a command leaves unchanged (R88), the accesses that
are ignored (R72) or refused (R70, R71), and the byte write to an input buffer (R71, R78, R81).
-/

namespace Sys2Proof.Machine

/-! ### The frame of a command -/

theorem State.overwrite_frame (s : State) (w : Written) (u : State) : s.Frame w (s.overwrite w u).complete where
  inputs := ⟨rfl, rfl, rfl, rfl, rfl, fun _ => rfl, fun _ => rfl, fun _ => rfl, rfl, rfl⟩
  pal h := by simp [State.overwrite, h]
  work h := by simp [State.overwrite, h]
  idx h := by simp [State.overwrite, h]
  out h := by simp [State.overwrite, h]
  rgba h := by simp [State.overwrite, h]

/-- R262: an error changes nothing but STATE, ERRCODE and ERR_STICKY, so it keeps to every write set. -/
theorem State.raise_frame (s : State) (w : Written) (e : ErrCode) : s.Frame w (s.raise e) where
  inputs := ⟨rfl, rfl, rfl, rfl, rfl, fun _ => rfl, fun _ => rfl, fun _ => rfl, rfl, rfl⟩
  pal _ := ⟨rfl, rfl⟩
  work _ := ⟨rfl, rfl⟩
  idx _ := ⟨rfl, rfl⟩
  out _ := ⟨fun _ => rfl, rfl⟩
  rgba _ := ⟨fun _ => rfl, rfl⟩

/-- Settles O18: a command but RESET has overwritten its write set and completed, or raised an error. -/
theorem commandFrame : Obligations.CommandFrame := by
  intro i s t hi h
  rcases exec_next hi h with ⟨u, rfl⟩ | ⟨e, rfl⟩
  · exact s.overwrite_frame (writeSet i) u
  · exact s.raise_frame (writeSet i) e

/-! ### Ignored accesses -/

theorem hostRegWrite_reserved (s : State) (v : Word) {n : Nat} (h₁ : 6 ≤ n) (h₂ : n ≤ 15) :
    hostRegWrite n v s = .next s := by
  unfold hostRegWrite
  iterate 6 rw [if_neg (by omega)]
  rw [if_pos (by omega)]

theorem State.regRead?_reserved (s : State) {n : Nat} (h₁ : 6 ≤ n) (h₂ : n ≤ 15) : s.regRead? n = some 0 := by
  unfold State.regRead?
  iterate 6 rw [if_neg (by omega)]
  rw [if_pos (by omega)]

theorem hostBufWrite_output {s : State} {S : Space} {a : Nat} (b : Byte) (hS : S = .out ∨ S = .rgbaout)
    (ha : a < spaceSize s.params S) : hostBufWrite S a b s = .next s := by
  unfold hostBufWrite
  rw [if_pos ha]
  rcases hS with rfl | rfl <;> rfl

/-! ### Reserved fields -/

theorem Options.reserved_toWord (o : Options) : o.toWord.extractLsb' 7 25 = 0 := by
  simp (disch := omega) [Options.toWord, BitVec.extractLsb'_or, extractLsb'_fieldAt_of_disjoint]

theorem cpalToWord_reserved (c : Rgb8) : (cpalToWord c).extractLsb' 24 8 = 0 := by
  simp (disch := omega) [cpalToWord, BitVec.extractLsb'_or, extractLsb'_fieldAt_of_disjoint]

/-- R35: the options are what writing back the word read stores. -/
theorem Options.ofWord_toWord (o : Options) : Options.ofWord o.toWord = o := by
  obtain ⟨level, useOpt, customValid, srcIsPi1⟩ := o
  simp only [Options.ofWord, Options.mk.injEq]
  refine ⟨?_, ?_⟩
  · simp (disch := omega) [Options.toWord, BitVec.extractLsb'_or, extractLsb'_fieldAt, extractLsb'_fieldAt_of_disjoint]
  · simp only [Options.toWord, BitVec.getLsbD_or, getLsbD_fieldAt]
    simp [BitVec.getLsbD_of_ge]

/-- R38: a CPAL entry is what writing back the word read stores. -/
theorem cpalOfWord_cpalToWord (c : Rgb8) : cpalOfWord (cpalToWord c) = c := by
  simp (disch := omega) [cpalOfWord, cpalToWord, BitVec.extractLsb'_or, extractLsb'_fieldAt,
    extractLsb'_fieldAt_of_disjoint]

/-- R35: written reserved bits of OPTIONS are ignored, since the word without them is the word read back. -/
theorem Options.ofWord_mask (v : Word) : Options.ofWord (v &&& 0x0000007F#32) = Options.ofWord v := by
  rw [← Options.toWord_ofWord, Options.ofWord_toWord]

/-- R38: written reserved bits of a CPAL register are ignored. -/
theorem cpalOfWord_mask (v : Word) : cpalOfWord (v &&& 0x00FFFFFF#32) = cpalOfWord v := by
  rw [← cpalToWord_cpalOfWord, cpalOfWord_cpalToWord]

theorem hostRegWrite_options_mask (s : State) (v : Word) :
    hostRegWrite 4 v s = hostRegWrite 4 (v &&& 0x0000007F#32) s := by
  simp [hostRegWrite, Options.ofWord_mask]

theorem hostRegWrite_cpal_mask (s : State) (v : Word) {n : Nat} (h₁ : 16 ≤ n) (h₂ : n ≤ 31) :
    hostRegWrite n v s = hostRegWrite n (v &&& 0x00FFFFFF#32) s := by
  rw [hostRegWrite_cpal _ _ h₁ h₂, hostRegWrite_cpal _ _ h₁ h₂, cpalOfWord_mask]

/-- Settles O20: the ignored writes, the words read with their reserved fields, and STATUS after a register access. -/
theorem ignoredHostAccesses : Obligations.IgnoredHostAccesses := by
  intro s
  refine ⟨?_, fun S a b => hostBufWrite_output b, rfl, fun n => s.regRead?_reserved, ?_, ?_, ?_,
    hostRegWrite_options_mask s, fun n v => hostRegWrite_cpal_mask s v, ?_, ?_⟩
  · rintro n v (rfl | ⟨h₁, h₂⟩)
    · rfl
    · exact hostRegWrite_reserved s v h₁ h₂
  · rintro v ⟨⟩
    exact s.status.reserved_toWord
  · rintro v ⟨⟩
    exact s.options.reserved_toWord
  · intro n v h₁ h₂ h
    rw [State.regRead?_cpal _ h₁ h₂] at h
    cases h
    exact cpalToWord_reserved _
  · intro n v t hn h
    obtain ⟨-, hstatus, -⟩ := hostRegWrite_frame hn h
    exact hstatus
  · intro n t h
    obtain ⟨v, -, rfl⟩ := hostRegRead_next h
    rfl

/-! ### A byte write to an input buffer -/

theorem State.srcByte_put (s : State) (a a' : Nat) (b : Byte) :
    { s with src := s.src.put a b }.srcByte a' = if a' = a then b else s.srcByte a' := by
  by_cases h : a' = a
  · simp [State.srcByte, h]
  · simp [State.srcByte, h, Memory.at?_put_other]

theorem State.pi1Byte_put (s : State) (a a' : Nat) (b : Byte) :
    { s with pi1in := s.pi1in.put a b }.pi1Byte a' = if a' = a then b else s.pi1Byte a' := by
  by_cases h : a' = a
  · simp [State.pi1Byte, h]
  · simp [State.pi1Byte, h, Memory.at?_put_other]

/-- R71: the byte every buffer gives at every offset after a byte write to an input buffer. -/
theorem hostBufWrite_bufByte? {s t : State} {S : Space} {a : Nat} {b : Byte} (hS : S = .src ∨ S = .pi1in)
    (h : hostBufWrite S a b s = .next t) (S' : Space) (a' : Nat) :
    t.bufByte? S' a' = if S' = S ∧ a' = a then some b else s.bufByte? S' a' := by
  obtain ⟨-, ⟨rfl, rfl⟩ | ⟨rfl, rfl⟩ | ⟨hout, -⟩⟩ := hostBufWrite_next h
  · cases S' with
    | src => simp [State.bufByte?, State.srcByte_put, apply_ite some]
    | pi1in | out | rgbaout => rfl
  · cases S' with
    | pi1in => simp [State.bufByte?, State.pi1Byte_put, apply_ite some]
    | src | out | rgbaout => rfl
  · rcases hS with rfl | rfl <;> simp at hout

/-- R78: a byte write changes no register, no hidden buffer and nothing of the parameters or the host's side. -/
theorem hostBufWrite_frame {s t : State} {S : Space} {a : Nat} {b : Byte} (h : hostBufWrite S a b s = .next t) :
    (∀ n, t.regRead? n = s.regRead? n) ∧ t.params = s.params ∧ t.status = s.status ∧ t.pal = s.pal ∧
      t.work = s.work ∧ t.idx = s.idx ∧ t.host = s.host := by
  obtain ⟨-, ⟨-, rfl⟩ | ⟨-, rfl⟩ | ⟨-, rfl⟩⟩ := hostBufWrite_next h
  all_goals exact ⟨fun _ => rfl, rfl, rfl, rfl, rfl, rfl, rfl⟩

theorem hostBufWrite_answers {s : State} {S : Space} {a : Nat} (b : Byte) (ha : a < spaceSize s.params S) :
    ∃ t, hostBufWrite S a b s = .next t := by
  unfold hostBufWrite
  rw [if_pos ha]
  cases S <;> exact ⟨_, rfl⟩

/-- Settles O24: the bytes read after the write, and the frame of a byte write. -/
theorem byteWriteThenRead : Obligations.ByteWriteThenRead := by
  intro s S a b hS ha
  obtain ⟨t, ht⟩ := hostBufWrite_answers b ha
  have hbyte := hostBufWrite_bufByte? hS ht
  refine ⟨t, ht, by simp [hbyte], fun S' a' hne => ?_, hostBufWrite_frame ht⟩
  rw [hbyte, if_neg (not_and_or.2 hne)]

/-! ### Refused accesses -/

theorem hostRegRead_of_gt (s : State) {n : Nat} (h : 31 < n) : hostRegRead n s = .refused (.noSuchRegister n) := by
  simp [hostRegRead, s.regRead?_of_gt h]

theorem hostRegWrite_of_gt (s : State) (v : Word) {n : Nat} (h : 31 < n) :
    hostRegWrite n v s = .refused (.noSuchRegister n) := by
  unfold hostRegWrite
  iterate 8 rw [if_neg (by omega)]

theorem hostBufRead_of_le {s : State} {S : Space} {a : Nat} (h : spaceSize s.params S ≤ a) :
    hostBufRead S a s = .refused (.noSuchOffset S a) :=
  if_neg (Nat.not_lt.2 h)

theorem hostBufWrite_of_le {s : State} {S : Space} {a : Nat} (b : Byte) (h : spaceSize s.params S ≤ a) :
    hostBufWrite S a b s = .refused (.noSuchOffset S a) :=
  if_neg (Nat.not_lt.2 h)

/-- Settles O22: neither a register number nor an offset out of range wraps to one that exists. -/
theorem outOfRangeAccessesRefused : Obligations.OutOfRangeAccessesRefused := by
  intro s
  exact ⟨fun n v h => ⟨hostRegRead_of_gt s h, hostRegWrite_of_gt s v h⟩,
    fun S a b h => ⟨hostBufRead_of_le h, hostBufWrite_of_le b h⟩, rfl, rfl, rfl, rfl⟩

end Sys2Proof.Machine
end


section
/-!
PROOFS. The encodings (`30_encoding.md`): the command words and the reserved words (R100 to R102), and the colour
word (R112).
-/

namespace Sys2Proof.Machine

/-! ### The command words -/

/-- R101: every row of the opcode map holds the word of its command. -/
theorem encode_of_mem_opcodeTable : ∀ row ∈ opcodeTable, encode row.2 = row.1 := by decide

theorem decode_encode (i : Instr) : decode (encode i) = .ok i := by
  cases i <;> rfl

/-- The inversion of the decoder: a word that decodes to a command matched that command's row. -/
theorem eq_encode_of_decode {v : Word} {i : Instr} (h : decode v = .ok i) : v = encode i := by
  unfold decode at h
  split at h
  next row hrow =>
    obtain rfl : row.2 = i := Except.ok.inj h
    have hword : row.1 = v := by simpa using List.find?_some hrow
    rw [encode_of_mem_opcodeTable row (List.mem_of_find?_eq_some hrow), hword]
  next => split at h <;> cases h

theorem decode_eq_ok_iff (v : Word) (i : Instr) : decode v = .ok i ↔ v = encode i :=
  ⟨eq_encode_of_decode, fun h => h ▸ decode_encode i⟩

/-- Settles O2: the command of a row has the row's word, and every command's word finds its row. -/
theorem decodeInvertsEncode : Obligations.DecodeInvertsEncode :=
  decode_eq_ok_iff

/-- Settles O1: the fourteen words are the words of the fourteen commands. -/
theorem commandWordsDecode : Obligations.CommandWordsDecode :=
  ⟨decode_encode .nop, decode_encode .defpal, decode_encode .buildpal, decode_encode .extpal, decode_encode .setpal,
    decode_encode .selpal, decode_encode .loadwork, decode_encode .dither, decode_encode .map, decode_encode .pack,
    decode_encode .preview, decode_encode .encode, decode_encode .decode, decode_encode .reset⟩

/-! ### The reserved words -/

theorem exists_opcodeTable_row : ∀ k < 0x10, k ≠ 0x0D → k ≠ 0x0E → ∃ row ∈ opcodeTable, row.1.toNat = k := by
  decide

/-- R101, R102: the words of the commands are the numbers 0 to 0x0C and 0x0F. -/
theorem exists_eq_encode_iff (v : Word) : (∃ i, v = encode i) ↔ v.toNat ≤ 0x0C ∨ v.toNat = 0x0F := by
  constructor
  · rintro ⟨i, rfl⟩
    cases i <;> decide
  · intro h
    obtain ⟨row, hrow, hword⟩ := exists_opcodeTable_row v.toNat (by omega) (by omega) (by omega)
    exact ⟨row.2, by rw [encode_of_mem_opcodeTable row hrow, BitVec.eq_of_toNat_eq hword]⟩

/-- R100, R102: a word is no command when its ZERO field is not 0 or its opcode is reserved. -/
theorem decode_ne_ok_iff (v : Word) : (∀ i, decode v ≠ .ok i) ↔
    (v.extractLsb' 8 24 ≠ 0 ∨ v.extractLsb' 0 8 = 0x0D#8 ∨ v.extractLsb' 0 8 = 0x0E#8 ∨
      0x10 ≤ (v.extractLsb' 0 8).toNat) := by
  have hcommand : (∀ i, decode v ≠ .ok i) ↔ ¬(v.toNat ≤ 0x0C ∨ v.toNat = 0x0F) := by
    simp only [ne_eq, decode_eq_ok_iff, ← exists_eq_encode_iff, not_exists]
  have hv : v.toNat < 4294967296 := v.isLt
  have hzero : (v.extractLsb' 8 24).toNat = v.toNat / 256 := by
    simp [BitVec.extractLsb'_toNat, Nat.shiftRight_eq_div_pow]
    omega
  have hopcode : (v.extractLsb' 0 8).toNat = v.toNat % 256 := by simp [BitVec.extractLsb'_toNat]
  simp only [hcommand, ne_eq, ← BitVec.toNat_inj, hzero, hopcode, BitVec.ofNat_eq_ofNat, BitVec.toNat_ofNat]
  omega

/-- R102: writing a word that is no command to CMD raises ERR_BAD_OPCODE. -/
theorem hostRegWrite_cmd_of_decode_ne_ok {v : Word} (h : ∀ i, decode v ≠ .ok i) (s : State) :
    hostRegWrite 0 v s = .next (s.raise .badOpcode) := by
  cases hd : decode v with
  | ok i => exact absurd hd (h i)
  | error e => exact issue_error hd s

/-- Settles O3: the numbers that are no command's word, field by field, and the issue of such a word. -/
theorem reservedWordsRaise : Obligations.ReservedWordsRaise :=
  fun v s => ⟨decode_ne_ok_iff v, fun h => hostRegWrite_cmd_of_decode_ne_ok h s⟩

/-! ### The colour word -/

/-- R112: a colour word is a register word with red at bit 8, green at bit 4 and blue at bit 0, cut to 16 bits. -/
theorem packWord_eq_fieldAt (r g b : Q3) :
    packWord r g b = (fieldAt r 8 ||| fieldAt g 4 ||| fieldAt b 0).setWidth 16 := by
  simp [packWord, fieldAt]

/-- R112: bits 15:11, 7 and 3 of a colour word are 0, bit by bit. -/
theorem packWord_and_reserved (r g b : Q3) : packWord r g b &&& 0xF888#16 = 0 := by
  refine BitVec.eq_of_getLsbD_eq fun i hi => ?_
  simp only [packWord_eq_fieldAt, BitVec.getLsbD_and, BitVec.getLsbD_setWidth, BitVec.getLsbD_or, getLsbD_fieldAt]
  interval_cases i <;> simp

/-- R112: each quantized channel is read back at its own place. -/
theorem extractLsb'_packWord (r g b : Q3) : (packWord r g b).extractLsb' 8 3 = r ∧
    (packWord r g b).extractLsb' 4 3 = g ∧ (packWord r g b).extractLsb' 0 3 = b := by
  refine ⟨?_, ?_, ?_⟩
  all_goals simp (disch := omega) [packWord_eq_fieldAt, BitVec.extractLsb'_setWidth_of_le, BitVec.extractLsb'_or,
    extractLsb'_fieldAt, extractLsb'_fieldAt_of_disjoint]

/-- R141, R148: the lowest channel quantizes to 0 under either `NUMERIC`. -/
theorem quantizeChannel_ofByte_zero (n : Numeric) : quantizeChannel n (.ofByte 0) = 0 := by
  cases n <;> decide +kernel

/-- R141, R148: the highest channel quantizes to 7 under either `NUMERIC`. -/
theorem quantizeChannel_ofByte_max (n : Numeric) : quantizeChannel n (.ofByte 255) = 7 := by
  cases n <;> decide +kernel

/-- R112: the five named words, each of channels that are 0 or 255. -/
theorem rgbToAtariWord_named (n : Numeric) :
    rgbToAtariWord n .white = 0x0777#16 ∧ rgbToAtariWord n .black = 0x0000#16 ∧
    rgbToAtariWord n (.ofRgb8 ⟨255, 0, 0⟩) = 0x0700#16 ∧ rgbToAtariWord n (.ofRgb8 ⟨0, 255, 0⟩) = 0x0070#16 ∧
    rgbToAtariWord n (.ofRgb8 ⟨0, 0, 255⟩) = 0x0007#16 := by
  simp only [rgbToAtariWord, RGB.white, RGB.black, RGB.ofRgb8, quantizeChannel_ofByte_zero, quantizeChannel_ofByte_max]
  decide

/-- Settles O27: the layout of a packed word, and the named words from the levels of the channels 0 and 255. -/
theorem colourWordLayout : Obligations.ColourWordLayout :=
  ⟨fun _ _ => ⟨packWord_and_reserved _ _ _, extractLsb'_packWord _ _ _⟩, rgbToAtariWord_named⟩

end Sys2Proof.Machine
end


section
/-!
PROOFS. The colour model (`40_colormodel.md`): the thresholds of a quantized channel (R140, R141), the expansion of a
colour word (R143), the round trip between the two (R144), and the nearest palette entry (R145, R146).
-/

namespace Sys2Proof.Machine

/-! ### The quantized channel -/

/-- R141: for exact arithmetic the level of a channel in 0..255 is in 0..7. -/
theorem quantizeLevel_exact_mem (v : Chan) : 0 ≤ quantizeLevel .exact v ∧ quantizeLevel .exact v < 8 := by
  have hlo := v.lo
  have hhi := v.hi
  simp only [quantizeLevel, Numeric.exact_rhu, Numeric.exact_mul, Numeric.exact_div, num_floor_eq, Int.le_floor,
    Int.floor_lt]
  constructor <;> push_cast <;> linarith

/-- R140: so the three bits hold the level. -/
theorem quantizeChannel_exact_toNat (v : Chan) : ((quantizeChannel .exact v).toNat : Int) = quantizeLevel .exact v := by
  have hlevel := quantizeLevel_exact_mem v
  simp only [quantizeChannel, BitVec.toNat_ofInt]
  omega

/-- R140: the level exceeds `k` from `255*(2k+1)/14` on, where `(v/255)*7 + 1/2` reaches `k + 1`. -/
theorem lt_quantizeLevel_exact_iff (v : Chan) (k : Nat) :
    (k : Int) < quantizeLevel .exact v ↔ (255 * (2 * k + 1) / 14 : Rat) ≤ v.val := by
  rw [← Int.add_one_le_iff]
  simp only [quantizeLevel, Numeric.exact_rhu, Numeric.exact_mul, Numeric.exact_div, num_floor_eq, Int.le_floor]
  push_cast
  constructor <;> intro h <;> linarith

/-- Settles O26: the three bits hold the level, and the level has the thresholds. -/
theorem quantizeThresholds : Obligations.QuantizeThresholds := by
  intro v
  refine ⟨quantizeChannel_exact_toNat v, fun k _ => ?_⟩
  rw [← lt_quantizeLevel_exact_iff, ← quantizeChannel_exact_toNat, Nat.cast_lt]

/-! ### The expanded channel -/

/-- R143: `(q * 255) / 7` of each of the eight quantized channels is in 0..255 under either `NUMERIC`. -/
theorem expansion_mem (n : Numeric) : ∀ q : Q3,
    0 ≤ n.div (n.mul (q.toNat : Num) 255) 7 ∧ n.div (n.mul (q.toNat : Num) 255) 7 ≤ 255 := by
  cases n <;> decide +kernel

/-- R143: so the clamp in `expandChannel` changes nothing. -/
theorem expandChannel_val (n : Numeric) (q : Q3) : (expandChannel n q).val = n.div (n.mul (q.toNat : Num) 255) 7 :=
  have ⟨hlo, hhi⟩ := expansion_mem n q
  Chan.clamp_val_of_mem hlo hhi

/-- R144: under either `NUMERIC` each of the eight quantized channels is the one its expansion quantizes to. -/
@[simp] theorem quantizeChannel_expandChannel (n : Numeric) : ∀ q : Q3, quantizeChannel n (expandChannel n q) = q := by
  cases n <;> decide +kernel

/-! ### The colour word and its colour -/

/-- R113: bits 15:11, 7 and 3 of the word are outside the three fields. -/
theorem atariWordToRgb_mask (n : Numeric) (w : Word16) : atariWordToRgb n (w &&& 0x0777#16) = atariWordToRgb n w := by
  have hr : (0x0777#16).extractLsb' 8 3 = BitVec.allOnes 3 := by decide
  have hg : (0x0777#16).extractLsb' 4 3 = BitVec.allOnes 3 := by decide
  have hb : (0x0777#16).extractLsb' 0 3 = BitVec.allOnes 3 := by decide
  simp only [atariWordToRgb, BitVec.extractLsb'_and, hr, hg, hb, BitVec.and_allOnes]

/-- Settles O28: the three expanded channels, and the reserved bits. -/
theorem colourWordExpansion : Obligations.ColourWordExpansion := by
  intro n w
  exact ⟨expandChannel_val n _, expandChannel_val n _, expandChannel_val n _, (atariWordToRgb_mask n w).symm⟩

/-- R112: packing the three fields of a word keeps the word but for its reserved bits. -/
theorem packWord_extractLsb' (w : Word16) :
    packWord (w.extractLsb' 8 3) (w.extractLsb' 4 3) (w.extractLsb' 0 3) = w &&& 0x0777#16 := by
  refine BitVec.eq_of_getLsbD_eq fun i hi => ?_
  simp only [packWord_eq_fieldAt, BitVec.getLsbD_and, BitVec.getLsbD_setWidth, BitVec.getLsbD_or, getLsbD_fieldAt,
    BitVec.getLsbD_extractLsb']
  interval_cases i <;> simp

theorem and_colourMask_of_reserved {w : Word16} (h : w &&& 0xF888#16 = 0) : w &&& 0x0777#16 = w := by
  have hmasks : 0x0777#16 ||| 0xF888#16 = BitVec.allOnes 16 := by decide
  calc w &&& 0x0777#16
    _ = w &&& 0x0777#16 ||| w &&& 0xF888#16 := by rw [h]; exact BitVec.or_zero.symm
    _ = w &&& (0x0777#16 ||| 0xF888#16) := BitVec.and_or_distrib_left.symm
    _ = w := by rw [hmasks, BitVec.and_allOnes]

/-- R144: expand-then-pack keeps a word but for its reserved bits. -/
theorem rgbToAtariWord_atariWordToRgb (n : Numeric) (w : Word16) :
    rgbToAtariWord n (atariWordToRgb n w) = w &&& 0x0777#16 := by
  simp only [rgbToAtariWord, atariWordToRgb, quantizeChannel_expandChannel, packWord_extractLsb']

/-- R144, R171: quantize-then-expand works on each channel by itself. -/
theorem quantizeExpand_get (n : Numeric) (c : RGB) (k : Channel) :
    (quantizeExpand n c).get k = expandChannel n (quantizeChannel n (c.get k)) := by
  obtain ⟨hr, hg, hb⟩ := extractLsb'_packWord (quantizeChannel n c.r) (quantizeChannel n c.g) (quantizeChannel n c.b)
  cases k
  case r => exact congrArg (expandChannel n) hr
  case g => exact congrArg (expandChannel n) hg
  case b => exact congrArg (expandChannel n) hb

theorem quantizeExpand_get_val (n : Numeric) (c : RGB) (k : Channel) :
    ((quantizeExpand n c).get k).val = n.div (n.mul ((quantizeChannel n (c.get k)).toNat : Num) 255) 7 := by
  rw [quantizeExpand_get, expandChannel_val]

theorem quantizeExpand_quantizeExpand (n : Numeric) (c : RGB) :
    quantizeExpand n (quantizeExpand n c) = quantizeExpand n c :=
  RGB.ext_get fun k => by simp only [quantizeExpand_get, quantizeChannel_expandChannel]

/-- Settles O29: the first two laws are one value, read in exact arithmetic and under either `NUMERIC`. -/
theorem quantizeExpandRoundTrip : Obligations.QuantizeExpandRoundTrip := by
  refine ⟨quantizeExpand_get_val .exact, quantizeExpand_get_val, fun n w h => ?_, quantizeExpand_quantizeExpand⟩
  rw [rgbToAtariWord_atariWordToRgb, and_colourMask_of_reserved h]

/-! ### The nearest palette entry -/

/-- R146: entry `j` comes before entry `i` as the nearest: it is no farther, and nearer when its index is the higher. -/
def NearestBefore (n : Numeric) (c : RGB) (P : Palette) (j i : Idx) : Prop :=
  dist2 n c (paletteEntry P j) ≤ dist2 n c (paletteEntry P i) ∧
    (i < j → dist2 n c (paletteEntry P j) < dist2 n c (paletteEntry P i))

/-- R146: over entries in rising order the scan ends at the first minimum. -/
theorem nearestScan_nearestBefore (n : Numeric) (c : RGB) (P : Palette) (is : List Idx) (best : Idx)
    (hrising : (best :: is).Pairwise (· < ·)) :
    ∀ i ∈ best :: is, NearestBefore n c P (nearestScan n c P is best (dist2 n c (paletteEntry P best))) i := by
  induction is generalizing best with
  | nil => simp [nearestScan, NearestBefore]
  | cons k is ih =>
    obtain ⟨hbest, hks⟩ := List.pairwise_cons.1 hrising
    obtain ⟨hbestk, hbestis⟩ := List.forall_mem_cons.1 hbest
    by_cases hnear : dist2 n c (paletteEntry P k) < dist2 n c (paletteEntry P best)
    · -- `k` replaces `best`: the entry found is no farther than `k`, so nearer than `best`
      simp only [nearestScan, if_pos hnear]
      have hfound := ih k hks
      obtain ⟨hle, -⟩ := hfound k List.mem_cons_self
      have hlt := hle.trans_lt hnear
      exact List.forall_mem_cons.2 ⟨⟨hlt.le, fun _ => hlt⟩, hfound⟩
    · -- `best` stays: an entry found after `k` comes after `best` too, so it is nearer than `best` and than `k`
      simp only [nearestScan, if_neg hnear]
      have hfar := not_lt.1 hnear
      obtain ⟨⟨hle, hlt⟩, hrest⟩ :=
        List.forall_mem_cons.1 (ih best (List.pairwise_cons.2 ⟨hbestis, (List.pairwise_cons.1 hks).2⟩))
      have hk := And.intro (hle.trans hfar) fun hafter => (hlt (BitVec.lt_trans hbestk hafter)).trans_le hfar
      exact List.forall_mem_cons.2 ⟨⟨hle, hlt⟩, List.forall_mem_cons.2 ⟨hk, hrest⟩⟩

theorem paletteIndices_rising : (0 :: laterEntries).Pairwise (· < ·) := by decide

theorem mem_paletteIndices : ∀ i : Idx, i ∈ 0 :: laterEntries := by decide

/-- R145: for exact arithmetic the distance is the sum of the squared differences. -/
theorem dist2_exact (a b : RGB) : dist2 .exact a b =
    (a.r.val - b.r.val) ^ 2 + (a.g.val - b.g.val) ^ 2 + (a.b.val - b.b.val) ^ 2 := by
  simp [dist2, sqDiff, pow_two]

/-- Settles O30: the scan runs over all sixteen indices in rising order. -/
theorem nearestIsFirstMinimum : Obligations.NearestIsFirstMinimum :=
  ⟨fun n c P i => nearestScan_nearestBefore n c P laterEntries 0 paletteIndices_rising i (mem_paletteIndices i),
    dist2_exact, fun _ _ _ => rfl⟩

end Sys2Proof.Machine
end


section
/-!
PROOFS. The palettes (`41_palette.md`): the sample set (R164), the median cut with its sort and its means (R166 to
R169), the anchors (R170), and the five palette commands (R162 to R176).
-/

namespace Sys2Proof.Machine

/-! ### The sample set -/

/-- R164: the samples are the colours of the pixels whose alpha exceeds 128, in pixel order. -/
theorem State.samples_eq_filter (s : State) (w h : Word) : s.samples w h =
    ((List.range (pixelCount w h)).filter fun i => decide (128 < (s.srcAlpha i).toNat)).map s.srcPixel := by
  rw [← List.filterMap_eq_map, List.filterMap_filter]
  simp [State.samples]

theorem pixelCount_of_nonpos {w h : Word} (hwh : w.toInt ≤ 0 ∨ h.toInt ≤ 0) : pixelCount w h = 0 := by
  simpa [pixelCount] using hwh

/-- Settles O59: the filter of the pixels, of which there are none when a dimension is not positive. -/
theorem samplesAreOpaquePixels : Obligations.SamplesAreOpaquePixels := by
  intro s w h
  refine ⟨s.samples_eq_filter w h, fun hwh => ?_⟩
  rw [s.samples_eq_filter, pixelCount_of_nonpos hwh]
  rfl

/-! ### The range of a channel -/

theorem sampleChannel_le_255 (c : Rgb8) (k : Channel) : (sampleChannel c k).toNat ≤ 255 :=
  Nat.le_of_lt_succ (sampleChannel c k).isLt

theorem le_channelMax {k : Channel} {S : List Rgb8} {c : Rgb8} (hc : c ∈ S) :
    (sampleChannel c k).toNat ≤ channelMax k S := by
  induction S with
  | nil => cases hc
  | cons d S ih =>
    rcases List.mem_cons.1 hc with rfl | hc
    · exact le_max_left _ _
    · exact (ih hc).trans (le_max_right _ _)

theorem channelMin_le {k : Channel} {S : List Rgb8} {c : Rgb8} (hc : c ∈ S) :
    channelMin k S ≤ (sampleChannel c k).toNat := by
  induction S with
  | nil => cases hc
  | cons d S ih =>
    rcases List.mem_cons.1 hc with rfl | hc
    · exact min_le_left _ _
    · exact (min_le_right _ _).trans (ih hc)

theorem exists_eq_channelMax (k : Channel) {S : List Rgb8} (hS : S ≠ []) :
    ∃ c ∈ S, (sampleChannel c k).toNat = channelMax k S := by
  induction S with
  | nil => exact absurd rfl hS
  | cons c S ih =>
    rcases le_total (channelMax k S) (sampleChannel c k).toNat with hle | hle
    · exact ⟨c, List.mem_cons_self, (max_eq_left hle).symm⟩
    · rcases eq_or_ne S [] with rfl | hS
      · exact ⟨c, List.mem_cons_self, (max_eq_left (Nat.zero_le _)).symm⟩
      · obtain ⟨d, hd, hmax⟩ := ih hS
        exact ⟨d, List.mem_cons_of_mem c hd, hmax.trans (max_eq_right hle).symm⟩

theorem exists_eq_channelMin (k : Channel) {S : List Rgb8} (hS : S ≠ []) :
    ∃ c ∈ S, (sampleChannel c k).toNat = channelMin k S := by
  induction S with
  | nil => exact absurd rfl hS
  | cons c S ih =>
    rcases le_total (sampleChannel c k).toNat (channelMin k S) with hle | hle
    · exact ⟨c, List.mem_cons_self, (min_eq_left hle).symm⟩
    · rcases eq_or_ne S [] with rfl | hS
      · exact ⟨c, List.mem_cons_self, (min_eq_left (sampleChannel_le_255 c k)).symm⟩
      · obtain ⟨d, hd, hmin⟩ := ih hS
        exact ⟨d, List.mem_cons_of_mem c hd, hmin.trans (min_eq_right hle).symm⟩

/-- R167 (a): the range of a channel is attained by two samples and exceeded by no two. -/
theorem channelRange_spec (k : Channel) {S : List Rgb8} (hS : S ≠ []) :
    (∃ c ∈ S, ∃ d ∈ S, (sampleChannel c k).toNat = (sampleChannel d k).toNat + channelRange k S) ∧
    ∀ c ∈ S, ∀ d ∈ S, (sampleChannel c k).toNat ≤ (sampleChannel d k).toNat + channelRange k S := by
  unfold channelRange
  constructor
  · obtain ⟨c, hc, hmax⟩ := exists_eq_channelMax k hS
    obtain ⟨d, hd, hmin⟩ := exists_eq_channelMin k hS
    have hle := channelMin_le (k := k) hc
    exact ⟨c, hc, d, hd, by omega⟩
  · intro c hc d hd
    have hmax := le_channelMax (k := k) hc
    have hmin := channelMin_le (k := k) hd
    omega

/-! ### The split -/

/-- R167 (b): the three cases of the widest channel. -/
theorem widestChannel_iff (S : List Rgb8) :
    (widestChannel S = .r ↔ channelRange .g S ≤ channelRange .r S ∧ channelRange .b S ≤ channelRange .r S) ∧
    (widestChannel S = .g ↔ (channelRange .r S < channelRange .g S ∨ channelRange .r S < channelRange .b S) ∧
      channelRange .b S ≤ channelRange .g S) ∧
    (widestChannel S = .b ↔ (channelRange .r S < channelRange .g S ∨ channelRange .r S < channelRange .b S) ∧
      channelRange .g S < channelRange .b S) := by
  unfold widestChannel
  split_ifs with hr hg <;> simp only [true_iff, false_iff] <;> omega

theorem medianCut_nil (n : Numeric) (d : Nat) : medianCut n d [] = [] := by
  cases d <;> rfl

theorem medianCut_zero (n : Numeric) {S : List Rgb8} (hS : S ≠ []) : medianCut n 0 S = [mean n S] := by
  cases S with
  | nil => exact absurd rfl hS
  | cons c S => rfl

theorem medianCut_succ (n : Numeric) (d : Nat) {S : List Rgb8} (hS : S ≠ []) : medianCut n (d + 1) S =
    medianCut n d ((sortByChannel (widestChannel S) S).take (S.length / 2)) ++
      medianCut n d ((sortByChannel (widestChannel S) S).drop (S.length / 2)) := by
  cases S with
  | nil => exact absurd rfl hS
  | cons c S => rfl

/-- Settles O60: the three equations of the recursion, the range of a channel and the widest one. -/
theorem medianCutSplits : Obligations.MedianCutSplits :=
  fun n S => ⟨medianCut_nil n, medianCut_zero n, fun hS d => medianCut_succ n d hS,
    fun hS k => channelRange_spec k hS, widestChannel_iff S⟩

/-! ### The sort -/

/-- R167 (c): the order of a split: samples compared by channel `k` alone. -/
abbrev ChannelLE (k : Channel) : Rgb8 → Rgb8 → Prop := (fun c => (sampleChannel c k).toNat) ⁻¹'o (· ≤ ·)

theorem insertByChannel_eq_orderedInsert (k : Channel) (c : Rgb8) (S : List Rgb8) :
    insertByChannel k c S = S.orderedInsert (ChannelLE k) c := by
  induction S with
  | nil => rfl
  | cons d S ih => simp [insertByChannel, ih, Order.Preimage]

/-- The sort of a split is the library's insertion sort. -/
theorem sortByChannel_eq_insertionSort (k : Channel) (S : List Rgb8) :
    sortByChannel k S = S.insertionSort (ChannelLE k) := by
  induction S with
  | nil => rfl
  | cons c S ih => rw [sortByChannel, ih, insertByChannel_eq_orderedInsert, List.insertionSort_cons]

theorem sortByChannel_perm (k : Channel) (S : List Rgb8) : (sortByChannel k S).Perm S :=
  sortByChannel_eq_insertionSort k S ▸ List.perm_insertionSort _ S

@[simp] theorem length_sortByChannel (k : Channel) (S : List Rgb8) : (sortByChannel k S).length = S.length :=
  (sortByChannel_perm k S).length_eq

theorem sortByChannel_pairwise (k : Channel) (S : List Rgb8) : (sortByChannel k S).Pairwise (ChannelLE k) :=
  sortByChannel_eq_insertionSort k S ▸ List.pairwise_insertionSort _ S

/-- R167 (c): stability. The samples of one channel value are a sorted sublist, and an insertion sort keeps those. -/
theorem filter_sortByChannel (k : Channel) (v : Byte) (S : List Rgb8) :
    (sortByChannel k S).filter (fun c => sampleChannel c k == v) = S.filter (fun c => sampleChannel c k == v) := by
  have hsorted : (S.filter fun c => sampleChannel c k == v).Pairwise (ChannelLE k) :=
    List.pairwise_of_forall_mem_list fun c hc d hd => by
      have hcd : sampleChannel c k = sampleChannel d k := by simp_all
      exact (congrArg BitVec.toNat hcd).le
  have hsub : (S.filter fun c => sampleChannel c k == v).Sublist (sortByChannel k S) :=
    sortByChannel_eq_insertionSort k S ▸ List.sublist_insertionSort hsorted List.filter_sublist
  refine (List.Sublist.eq_of_length ?_ ((sortByChannel_perm k S).filter _).length_eq.symm).symm
  simpa using hsub.filter fun c => sampleChannel c k == v

/-- Settles O36: the insertion sort by a channel permutes, sorts and is stable. -/
theorem sampleSortIsStable : Obligations.SampleSortIsStable :=
  fun k S => ⟨sortByChannel_perm k S, sortByChannel_pairwise k S, fun v => filter_sortByChannel k v S⟩

/-! ### The sixteen colours -/

/-- R169: a list of at least `2 ^ d` samples halves `d` times without an empty half. -/
theorem length_medianCut (n : Numeric) (d : Nat) {S : List Rgb8} (hS : 2 ^ d ≤ S.length) :
    (medianCut n d S).length = 2 ^ d := by
  have hne : S ≠ [] := List.ne_nil_of_length_pos ((Nat.two_pow_pos d).trans_le hS)
  induction d generalizing S with
  | zero => rw [medianCut_zero n hne]; rfl
  | succ d ih =>
    rw [pow_succ] at hS ⊢
    have hpos := Nat.two_pow_pos d
    rw [medianCut_succ n d hne, List.length_append, ih, ih]
    · omega
    all_goals simp only [← List.length_pos_iff, List.length_take, List.length_drop, length_sortByChannel]; omega

theorem mem_toList_paletteEntry (P : Palette) (i : Idx) : paletteEntry P i ∈ P.toList := by
  simp [paletteEntry]

/-- R169: sixteen colours are neither truncated nor padded. -/
theorem fit16_toList (d : Palette) {L : List RGB} (hL : L.length = 16) : (fit16 d L).toList = L := by
  refine List.ext_getElem (by simp [hL]) fun i _ hi => ?_
  have hmod : i % 16 = i := Nat.mod_eq_of_lt (hL ▸ hi)
  simp [fit16, paletteOf, hmod, hi]

/-- Settles O35: at depth 4 the cut halves to sixteen colours. -/
theorem medianCutGivesSixteen : Obligations.MedianCutGivesSixteen := by
  intro n S hS
  have hlen := length_medianCut n 4 hS
  exact ⟨hlen, fun d => fit16_toList d hlen⟩

/-! ### The mean -/

/-- The channel values of the samples added up, as natural numbers. -/
def sampleSum (k : Channel) (S : List Rgb8) : Nat := (S.map fun c => (sampleChannel c k).toNat).sum

/-- R168: for exact arithmetic the sum in list order is the sum. -/
theorem channelSum_exact (k : Channel) (S : List Rgb8) : channelSum .exact k S = (sampleSum k S : Num) := by
  have hfrom : ∀ a : Num, S.foldl (fun acc c => Numeric.exact.add acc ((sampleChannel c k).toNat : Num)) a =
      a + (sampleSum k S : Num) := by
    induction S with
    | nil => simp [sampleSum]
    | cons c S ih => intro a; rw [List.foldl_cons, ih]; simp [sampleSum, add_assoc]
  simpa [channelSum] using hfrom 0

theorem length_mul_channelMin_le (k : Channel) (S : List Rgb8) : S.length * channelMin k S ≤ sampleSum k S := by
  simpa [sampleSum] using List.card_nsmul_le_sum (S.map fun c => (sampleChannel c k).toNat) (channelMin k S)
    (by simpa using fun c hc => channelMin_le hc)

theorem sampleSum_le_length_mul (k : Channel) (S : List Rgb8) : sampleSum k S ≤ S.length * channelMax k S := by
  simpa [sampleSum] using List.sum_le_card_nsmul (S.map fun c => (sampleChannel c k).toNat) (channelMax k S)
    (by simpa using fun c hc => le_channelMax hc)

theorem channelMax_le_255 (k : Channel) (S : List Rgb8) : channelMax k S ≤ 255 := by
  induction S with
  | nil => exact Nat.zero_le _
  | cons c S ih => exact max_le (sampleChannel_le_255 c k) ih

/-- R168: the quotient of the exact mean lies between the least and the greatest sample. -/
theorem average_mem (k : Channel) {S : List Rgb8} (hS : S ≠ []) :
    (channelMin k S : Num) ≤ (sampleSum k S : Num) / S.length ∧
      (sampleSum k S : Num) / S.length ≤ (channelMax k S : Num) := by
  have hlen : (0 : Num) < S.length := by exact_mod_cast List.length_pos_iff.2 hS
  rw [le_div_iff₀ hlen, div_le_iff₀ hlen, mul_comm, mul_comm (channelMax k S : Num)]
  exact ⟨by exact_mod_cast length_mul_channelMin_le k S, by exact_mod_cast sampleSum_le_length_mul k S⟩

/-- R168: so the bound on a channel changes nothing (log entry 14). -/
theorem mean_exact_get_val (k : Channel) {S : List Rgb8} (hS : S ≠ []) :
    ((mean .exact S).get k).val = (sampleSum k S : Num) / S.length := by
  obtain ⟨hlo, hhi⟩ := average_mem k hS
  rw [mean, RGB.get_ofFn, channelSum_exact, Numeric.exact_div]
  refine Chan.clamp_val_of_mem ((Nat.cast_nonneg _).trans hlo) (hhi.trans ?_)
  exact_mod_cast channelMax_le_255 k S

/-- Settles O37: the exact mean is the average, which the least and the greatest sample bound. -/
theorem meanIsAverage : Obligations.MeanIsAverage := by
  intro S k hS
  rw [mean_exact_get_val k hS]
  exact ⟨rfl, average_mem k hS⟩

/-! ### An anchor among the colours of the median cut -/

/-- Every colour of the median cut is the mean of some of the samples. -/
theorem exists_mean_of_mem_medianCut {n : Numeric} {d : Nat} {S : List Rgb8} {c : RGB} (hc : c ∈ medianCut n d S) :
    ∃ T ⊆ S, T ≠ [] ∧ c = mean n T := by
  induction d generalizing S with
  | zero =>
    rcases eq_or_ne S [] with rfl | hS
    · simp [medianCut_nil] at hc
    · rw [medianCut_zero n hS, List.mem_singleton] at hc
      exact ⟨S, List.Subset.refl S, hS, hc⟩
  | succ d ih =>
    rcases eq_or_ne S [] with rfl | hS
    · simp [medianCut_nil] at hc
    · have of_half {H : List Rgb8} (hH : H ⊆ sortByChannel (widestChannel S) S) (hc : c ∈ medianCut n d H) :
          ∃ T ⊆ S, T ≠ [] ∧ c = mean n T := by
        obtain ⟨T, hT, hmean⟩ := ih hc
        exact ⟨T, fun _ h => (sortByChannel_perm _ S).subset (hH (hT h)), hmean⟩
      rw [medianCut_succ n d hS, List.mem_append] at hc
      exact hc.elim (of_half (List.take_subset _ _)) (of_half (List.drop_subset _ _))

/-- Channel values on one side of `m` that average to `m` are all `m`. -/
theorem sampleChannel_eq_of_sampleSum {k : Channel} {T : List Rgb8} {m : Nat} (hsum : sampleSum k T = T.length * m)
    (hside : (∀ c ∈ T, (sampleChannel c k).toNat ≤ m) ∨ ∀ c ∈ T, m ≤ (sampleChannel c k).toNat) :
    ∀ c ∈ T, (sampleChannel c k).toNat = m := by
  intro c hc
  have hconst : (T.map fun _ => m).sum = T.length * m := by simp
  by_contra hne
  rcases hside with hle | hge
  · have := List.sum_lt_sum _ (fun _ => m) hle ⟨c, hc, lt_of_le_of_ne (hle c hc) hne⟩
    exact this.ne (hsum.trans hconst.symm)
  · have := List.sum_lt_sum (fun _ => m) _ hge ⟨c, hc, lt_of_le_of_ne (hge c hc) (Ne.symm hne)⟩
    exact this.ne (hconst.trans hsum.symm)

theorem sample_ext {c d : Rgb8} (h : ∀ k, sampleChannel c k = sampleChannel d k) : c = d := by
  cases c; cases d
  simpa [sampleChannel] using And.intro (h .r) (And.intro (h .g) (h .b))

/-- R172: the exact mean of samples is black or white only when every one of them is. -/
theorem eq_anchor_of_mean_exact {T : List Rgb8} (hT : T ≠ []) {b : Byte} (hb : b = 0 ∨ b = 255)
    (h : mean .exact T = .ofRgb8 ⟨b, b, b⟩) : ∀ c ∈ T, c = ⟨b, b, b⟩ := by
  intro c hc
  have hlen : (T.length : Num) ≠ 0 := by simpa using hT
  have hanchor : ∀ k, sampleChannel ⟨b, b, b⟩ k = b := by intro k; cases k <;> rfl
  refine sample_ext fun k => ?_
  have hval : ((mean .exact T).get k).val = b.toNat := by rw [h]; cases k <;> rfl
  rw [mean_exact_get_val k hT, div_eq_iff hlen, mul_comm] at hval
  refine (BitVec.eq_of_toNat_eq ?_).trans (hanchor k).symm
  refine sampleChannel_eq_of_sampleSum (by exact_mod_cast hval) ?_ c hc
  rcases hb with rfl | rfl
  · exact .inr fun c _ => Nat.zero_le _
  · exact .inl fun c _ => sampleChannel_le_255 c k

/-- R172: for exact arithmetic an anchor among the colours of the median cut is among the samples. -/
theorem anchor_mem_of_fit16_entry {S : List Rgb8} (hS : 16 ≤ S.length) {d : Palette} {i : Idx} {b : Byte}
    (hb : b = 0 ∨ b = 255) (h : paletteEntry (fit16 d (medianCut .exact 4 S)) i = .ofRgb8 ⟨b, b, b⟩) :
    (⟨b, b, b⟩ : Rgb8) ∈ S := by
  have hmem := mem_toList_paletteEntry (fit16 d (medianCut .exact 4 S)) i
  rw [h, fit16_toList d (length_medianCut .exact 4 hS)] at hmem
  obtain ⟨T, hTS, hT, hmean⟩ := exists_mean_of_mem_medianCut hmem
  obtain ⟨c, hc⟩ := List.exists_mem_of_ne_nil T hT
  exact eq_anchor_of_mean_exact hT hb hmean.symm c hc ▸ hTS hc

/-! ### The anchors -/

theorem black_ne_white : RGB.black ≠ RGB.white := by decide +kernel

/-- R170: white is among the entries after the test for black. -/
theorem hasColor_white_enforceAnchor_black (P : Palette) : hasColor (enforceAnchor .black 0 P) .white = true ↔
    ∃ i, paletteEntry P i = .white ∧ (i = 0 → ∃ j, paletteEntry P j = .black) := by
  simp only [hasColor_iff, enforceAnchor_entry]
  refine exists_congr fun i => ?_
  split_ifs with hblack hi
  · simp [hblack]
  · simp [hblack, hi, black_ne_white]
  · exact (and_iff_left fun h => absurd h hi).symm

theorem enforceAnchors_entry_zero (P : Palette) : paletteEntry (enforceAnchors P) 0 =
    if hasColor P .black = true then paletteEntry P 0 else .black := by
  simp [enforceAnchors, enforceAnchor_entry]

theorem enforceAnchors_entry_one (P : Palette) : paletteEntry (enforceAnchors P) 1 =
    if hasColor (enforceAnchor .black 0 P) .white = true then paletteEntry P 1 else .white := by
  simp [enforceAnchors, enforceAnchor_entry]

theorem enforceAnchors_entry_other (P : Palette) {i : Idx} (h₀ : i ≠ 0) (h₁ : i ≠ 1) :
    paletteEntry (enforceAnchors P) i = paletteEntry P i := by
  rw [enforceAnchors, enforceAnchor_entry, enforceAnchor_entry, if_neg h₁, if_neg h₀, ite_self, ite_self]

/-- R171: the anchors are colours of the Atari space. -/
theorem quantizeExpand_black (n : Numeric) : quantizeExpand n .black = .black := by
  cases n <;> decide +kernel

theorem quantizeExpand_white (n : Numeric) : quantizeExpand n .white = .white := by
  cases n <;> decide +kernel

/-! ### DEFPAL, BUILDPAL -/

/-- What a palette command that raises nothing ends in: a completion with PAL_VALID 1. -/
theorem State.setPal_complete_completed (s : State) (P : Palette) : s.Completed (s.setPal P).complete :=
  ⟨rfl, rfl, rfl⟩

theorem exec_defpal (s : State) : exec .defpal s = .next (s.setPal s.params.defaultPalette).complete :=
  command_ok (defpalBody_eq s)

/-- Settles O32: DEFPAL writes the parameter, which it leaves as it is. -/
theorem defpalLoadsDefault : Obligations.DefpalLoadsDefault :=
  fun s => ⟨_, exec_defpal s, s.setPal_complete_completed _, rfl, fun _ => rfl, _, exec_defpal _, rfl⟩

theorem exec_buildpal_ok {s : State} (h : s.overCapacity = false) : exec .buildpal s =
    .next (s.setPal (optimizedPalette s.params (s.samples s.width s.height))).complete :=
  command_ok (buildpalBody_ok h)

/-- R165: fewer than 16 samples give the default palette. -/
theorem optimizedPalette_of_lt (p : Params) {S : List Rgb8} (h : S.length < 16) :
    optimizedPalette p S = p.defaultPalette :=
  if_pos h

/-- Settles O33: the two palettes of a sample set, the optimized one being quantized and expanded. -/
theorem buildpalCompletes : Obligations.BuildpalCompletes := by
  intro s hcap
  refine ⟨_, exec_buildpal_ok hcap, s.setPal_complete_completed _, rfl, optimizedPalette_of_lt s.params,
    fun hlen => ⟨optimizedPalette_entry s.params hlen, fun i k => ?_⟩⟩
  rw [State.complete_pal, State.setPal_pal, optimizedPalette_entry s.params hlen, quantizeExpand_get_val]
  exact ⟨_, rfl⟩

/-- Settles O34: each anchor test on the colours of the cut, and an exact cut without an anchor sample. -/
theorem buildpalForcesAbsentAnchors : Obligations.BuildpalForcesAbsentAnchors := by
  intro s hcap hlen P hasBlack hasWhite
  let Q := optimizedPalette s.params (s.samples s.width s.height)
  have hentry : ∀ i, paletteEntry Q i = quantizeExpand s.params.numeric (paletteEntry (enforceAnchors P) i) :=
    optimizedPalette_entry s.params hlen
  have hblack : hasColor P .black = true ↔ hasBlack := hasColor_iff P .black
  have hwhite : hasColor (enforceAnchor .black 0 P) .white = true ↔ hasWhite := hasColor_white_enforceAnchor_black P
  have hzero : ¬hasBlack → paletteEntry Q 0 = .black := fun h => by
    rw [hentry, enforceAnchors_entry_zero, if_neg (mt hblack.1 h), quantizeExpand_black]
  have hone : ¬hasWhite → paletteEntry Q 1 = .white := fun h => by
    rw [hentry, enforceAnchors_entry_one, if_neg (mt hwhite.1 h), quantizeExpand_white]
  refine ⟨_, exec_buildpal_ok hcap, fun h => ?_, hzero, fun h => ?_, hone, fun i h₀ h₁ => ?_, fun hexact =>
    ⟨fun hsamples => hzero ?_, fun hsamples => hone ?_⟩⟩
  · exact (hentry 0).trans (congrArg _ ((enforceAnchors_entry_zero P).trans (if_pos (hblack.2 h))))
  · exact (hentry 1).trans (congrArg _ ((enforceAnchors_entry_one P).trans (if_pos (hwhite.2 h))))
  · exact (hentry i).trans (congrArg _ (enforceAnchors_entry_other P h₀ h₁))
  · rintro ⟨i, hi⟩
    simp only [P, hexact] at hi
    exact hsamples _ (anchor_mem_of_fit16_entry hlen (.inl rfl) hi) rfl
  · rintro ⟨i, hi, -⟩
    simp only [P, hexact] at hi
    exact hsamples _ (anchor_mem_of_fit16_entry hlen (.inr rfl) hi) rfl

/-! ### EXTPAL, SETPAL, SELPAL -/

theorem exec_extpal_ok {s : State} (h : 34 ≤ s.inLen.toNat) :
    exec .extpal s = .next (s.setPal s.extractedPalette).complete :=
  command_ok (extpalBody_ok h)

theorem State.extractedPalette_entry (s : State) (i : Idx) : paletteEntry s.extractedPalette i =
    atariWordToRgb s.params.numeric
      (((s.pi1Byte (2 + 2 * i.toNat)).setWidth 16 <<< 8) ||| (s.pi1Byte (3 + 2 * i.toNat)).setWidth 16) := by
  have hlow : 2 + 2 * i.toNat + 1 = 3 + 2 * i.toNat := by omega
  simp only [State.extractedPalette, paletteEntry_paletteOf, State.pi1Word, hlow]

/-- Settles O38: the palette of the header words, or ERR_SHORT_INPUT. -/
theorem extpalReadsHeader : Obligations.ExtpalReadsHeader :=
  fun s => ⟨fun h => ⟨_, exec_extpal_ok h, s.setPal_complete_completed _, rfl, s.extractedPalette_entry⟩,
    fun h => command_error (extpalBody_error h)⟩

theorem exec_setpal (s : State) : exec .setpal s = .next (s.setPal s.customPalette).complete :=
  command_ok (setpalBody_eq s)

/-- R38: register `16 + i` is the word of CPAL entry `i`. -/
theorem State.cpalEntry_of_regRead? {s : State} {i : Idx} {v : Word} (h : s.regRead? (16 + i.toNat) = some v) :
    s.cpalEntry i = cpalOfWord v := by
  have hi := i.isLt
  rw [s.regRead?_cpal (by omega) (by omega), Nat.add_sub_cancel_left, BitVec.ofNat_toNat, BitVec.setWidth_eq] at h
  rw [← Option.some.inj h, cpalOfWord_cpalToWord]

theorem State.customPalette_entry (s : State) (i : Idx) : paletteEntry s.customPalette i = .ofRgb8 (s.cpalEntry i) :=
  paletteEntry_paletteOf _ i

/-- Settles O39: the palette of the CPAL registers, whose bytes are the fields of the words read. -/
theorem setpalLoadsCustom : Obligations.SetpalLoadsCustom := by
  refine fun s => ⟨_, exec_setpal s, s.setPal_complete_completed _, rfl, fun i v hv => ?_⟩
  rw [State.complete_pal, State.setPal_pal, s.customPalette_entry, State.cpalEntry_of_regRead? hv]
  exact ⟨rfl, rfl, rfl⟩

/-- R176: the branch SELPAL takes, errors included. -/
theorem exec_selpal_eq_branch (s : State) : exec .selpal s =
    if s.options.customValid then exec .setpal s
    else if s.options.srcIsPi1 then exec .extpal s
    else if s.options.useOpt then exec .buildpal s
    else exec .defpal s := by
  show command selpalBody s = _
  unfold command selpalBody
  split_ifs <;> rfl

/-- Settles O40: the branch taken, and its completion when it has no cause to raise. -/
theorem selpalTakesOneBranch : Obligations.SelpalTakesOneBranch :=
  fun s => ⟨exec_selpal_eq_branch s, fun h => ⟨_, exec_selpal_ok h, s.setPal_complete_completed _, rfl⟩⟩

end Sys2Proof.Machine
end


section
/-!
PROOFS. The working raster and the ditherer (`42_dither.md`): LOADWORK (R190), what the step at one pixel does to the
raster (R193 to R198), and the laws of DITHER (R199).
-/

namespace Sys2Proof.Machine

/-! ### LOADWORK -/

theorem State.workAt_loadedWork (s : State) {i : Nat} (h : i < pixelCount s.width s.height) :
    workAt s.loadedWork.pix i = .ofRgb8 (s.srcPixel i) := by
  simp [workAt, State.loadedWork, h]

/-- What LOADWORK and DITHER end in when they raise nothing: a completion with WORK_VALID 1. -/
theorem State.setWork_complete_completed (s : State) (k : Work) : s.Completed (s.setWork k).complete :=
  ⟨rfl, rfl, rfl⟩

/-- Settles O41: the raster of the source's colours, or ERR_CAPACITY. -/
theorem loadworkLatchesSource : Obligations.LoadworkLatchesSource := by
  refine fun s => ⟨fun hcap => ⟨_, exec_loadwork_ok hcap, s.setWork_complete_completed _, rfl, rfl, rfl,
    s.loadedWork_size, fun i hi => ?_⟩, fun hcap => command_error (loadworkBody_error hcap)⟩
  rw [State.complete_work, State.setWork_work, s.workAt_loadedWork hi]
  exact ⟨rfl, rfl, rfl⟩

/-! ### Elements of a raster -/

theorem Work.size_of_wf {k : Work} (h : k.wf = true) : k.pix.size = k.w.toInt.toNat * k.h.toInt.toNat :=
  beq_iff_eq.1 h

theorem workAt_setIfInBounds (pix : Array RGB) (i j : Nat) (c : RGB) :
    workAt (pix.setIfInBounds i c) j = if i = j ∧ j < pix.size then c else workAt pix j := by
  by_cases hij : i = j
  · by_cases hj : j < pix.size <;> simp [workAt, hij, hj]
  · simp [workAt, hij]

theorem setIfInBounds_workAt (pix : Array RGB) (i : Nat) : pix.setIfInBounds i (workAt pix i) = pix := by
  refine Array.ext_getElem? fun j => ?_
  rw [Array.getElem?_setIfInBounds]
  split_ifs with hij hi
  · subst hij; simp [workAt, hi]
  · subst hij; simp [hi]
  · rfl

/-! ### One share -/

/-- R193, R197: a colour after one share of each channel's error. -/
def RGB.addShares (n : Numeric) (e : Channel → Num) (share : Num) (c : RGB) : RGB :=
  .ofFn fun k => addShare n (c.get k) (e k) share

/-- R198: an element lies in the row its number says. -/
theorem row_mem_of_element {W H j : Nat} {tx ty : Int} (hj : j < W * H) (h₀ : 0 ≤ tx) (h₁ : tx < W)
    (h : (j : Int) = ty * W + tx) : 0 ≤ ty ∧ ty < H := by
  have hjH : (j : Int) < W * H := by exact_mod_cast hj
  constructor <;> nlinarith

/-- R193, R198: a share changes the element at its target, if that is in the raster, and no other. -/
theorem workAt_spread (n : Numeric) {W H : Nat} (e : Channel → Num) (tx ty : Int) (share : Num) {pix : Array RGB}
    (hsize : pix.size = W * H) {j : Nat} (hj : j < W * H) :
    workAt (spread n W H e tx ty share pix) j =
      if 0 ≤ tx ∧ tx < W ∧ (j : Int) = ty * W + tx then (workAt pix j).addShares n e share else workAt pix j := by
  unfold spread
  by_cases htarget : 0 ≤ tx ∧ tx < W ∧ (j : Int) = ty * W + tx
  · obtain ⟨h₀, h₁, hpos⟩ := htarget
    obtain ⟨hy₀, hy₁⟩ := row_mem_of_element hj h₀ h₁ hpos
    simp [h₀, h₁, hy₀, hy₁, ← hpos, workAt_setIfInBounds, hsize, hj, RGB.addShares]
  · rw [if_neg htarget]
    split_ifs with hin
    · obtain ⟨h₀, h₁, hy₀, -⟩ := hin
      have hne : (ty * W + tx).toNat ≠ j := fun h => htarget ⟨h₀, h₁, by
        rw [← h, Int.toNat_of_nonneg (by positivity)]⟩
      rw [workAt_setIfInBounds, if_neg fun h => hne h.1]
    · rfl

/-! ### One pixel -/

/-- R193, R198: the shares of element `i`, by the number of the element that gets one. No two reach the same element. -/
theorem workAt_spreadAll (n : Numeric) {W H : Nat} (e : Channel → Num) {pix : Array RGB} (hsize : pix.size = W * H)
    {i j : Nat} (hj : j < W * H) :
    workAt (spreadAll n W H e ((i % W : Nat) : Int) ((i / W : Nat) : Int) pix) j =
      if i % W + 1 < W ∧ j = i + 1 then (workAt pix j).addShares n e 7
      else if 0 < i % W ∧ j + 1 = i + W then (workAt pix j).addShares n e 3
      else if j = i + W then (workAt pix j).addShares n e 5
      else if i % W + 1 < W ∧ j = i + W + 1 then (workAt pix j).addShares n e 1
      else workAt pix j := by
  have hW : 0 < W := Nat.pos_of_mul_pos_right (Nat.zero_lt_of_lt hj)
  have hx : i % W < W := Nat.mod_lt i hW
  have hi : (i : Int) = ((i / W : Nat) : Int) * W + ((i % W : Nat) : Int) := by
    exact_mod_cast (Nat.div_add_mod' i W).symm
  generalize i % W = x at hx hi ⊢
  generalize i / W = y at hi ⊢
  simp only [spreadAll, workAt_spread, spread_size, hsize, hj, add_mul, one_mul]
  have h7 : (0 ≤ (x : Int) + 1 ∧ (x : Int) + 1 < W ∧ (j : Int) = y * W + (x + 1)) ↔ x + 1 < W ∧ j = i + 1 := by omega
  have h3 : (0 ≤ (x : Int) - 1 ∧ (x : Int) - 1 < W ∧ (j : Int) = y * W + W + (x - 1)) ↔ 0 < x ∧ j + 1 = i + W := by
    omega
  have h5 : (0 ≤ (x : Int) ∧ (x : Int) < W ∧ (j : Int) = y * W + W + x) ↔ j = i + W := by omega
  have h1 : (0 ≤ (x : Int) + 1 ∧ (x : Int) + 1 < W ∧ (j : Int) = y * W + W + (x + 1)) ↔ x + 1 < W ∧ j = i + W + 1 := by
    omega
  simp only [h7, h3, h5, h1]
  split_ifs
  -- the branches in which two of the targets agree cannot happen
  any_goals omega
  all_goals rfl

/-- Settles O43: the element itself gets no share, and the others get theirs on what they held before the step. -/
theorem ditherPixelSpreadsError : Obligations.DitherPixelSpreadsError := by
  intro n P strength W H pix i j hsize hi hj old new shared
  have hW : 0 < W := Nat.pos_of_mul_pos_right (Nat.zero_lt_of_lt hj)
  have hx : i % W < W := Nat.mod_lt i hW
  show workAt (spreadAll n W H (ditherError n strength old new) _ _ (pix.setIfInBounds i new)) j = _
  rw [workAt_spreadAll n _ (by simpa using hsize) hj]
  by_cases hji : j = i
  · rw [if_pos hji]
    iterate 4 rw [if_neg (by omega)]
    rw [workAt_setIfInBounds, if_pos ⟨hji.symm, hsize ▸ hj⟩]
  · have hkept : workAt (pix.setIfInBounds i new) j = workAt pix j := by
      rw [workAt_setIfInBounds, if_neg fun h => hji h.1.symm]
    rw [if_neg hji, hkept]
    rfl

theorem workAt_ditherPixel_self (n : Numeric) (P : Palette) (strength : Num) {W H : Nat} {pix : Array RGB}
    (hsize : pix.size = W * H) {i : Nat} (hi : i < W * H) :
    workAt (ditherPixel n P strength W H pix i) i = paletteEntry P (nearestColorIndex n (workAt pix i) P) :=
  (ditherPixelSpreadsError n P strength W H pix i i hsize hi hi).trans (if_pos rfl)

/-- R198: no share reaches an element the ditherer has passed. -/
theorem workAt_ditherPixel_of_lt (n : Numeric) (P : Palette) (strength : Num) {W H : Nat} {pix : Array RGB}
    (hsize : pix.size = W * H) {i j : Nat} (hi : i < W * H) (hji : j < i) :
    workAt (ditherPixel n P strength W H pix i) j = workAt pix j := by
  have hW : 0 < W := Nat.pos_of_mul_pos_right (Nat.zero_lt_of_lt hi)
  rw [ditherPixelSpreadsError n P strength W H pix i j hsize hi (hji.trans hi)]
  iterate 5 rw [if_neg (by omega)]

/-! ### All pixels -/

/-- R196: the raster after the pixel steps of the first `m` elements. -/
def ditherFirst (n : Numeric) (P : Palette) (strength : Num) (W H : Nat) (pix : Array RGB) (m : Nat) : Array RGB :=
  (List.range m).foldl (ditherPixel n P strength W H) pix

theorem ditherFirst_succ (n : Numeric) (P : Palette) (strength : Num) (W H : Nat) (pix : Array RGB) (m : Nat) :
    ditherFirst n P strength W H pix (m + 1) =
      ditherPixel n P strength W H (ditherFirst n P strength W H pix m) m := by
  simp [ditherFirst, List.range_succ]

@[simp] theorem ditherFirst_size (n : Numeric) (P : Palette) (strength : Num) (W H : Nat) (pix : Array RGB) (m : Nat) :
    (ditherFirst n P strength W H pix m).size = pix.size := by
  induction m with
  | zero => rfl
  | succ m ih => rw [ditherFirst_succ, ditherPixel_size, ih]

/-- R193: DITHER runs the steps of all the elements its dimensions give. -/
theorem State.ditheredWork_pix (s : State) : s.ditheredWork.pix = ditherFirst s.params.numeric s.pal s.strength
    s.work.w.toInt.toNat s.work.h.toInt.toNat s.work.pix (s.work.w.toInt.toNat * s.work.h.toInt.toNat) := rfl

/-- R195: an element the ditherer has passed is a palette colour. -/
theorem workAt_ditherFirst_mem_palette (n : Numeric) (P : Palette) (strength : Num) {W H : Nat} {pix : Array RGB}
    (hsize : pix.size = W * H) {m : Nat} (hm : m ≤ W * H) :
    ∀ j < m, ∃ k, workAt (ditherFirst n P strength W H pix m) j = paletteEntry P k := by
  induction m with
  | zero => exact fun j hj => absurd hj j.not_lt_zero
  | succ m ih =>
    intro j hj
    have hsize' := (ditherFirst_size n P strength W H pix m).trans hsize
    rw [ditherFirst_succ]
    rcases Nat.lt_succ_iff_lt_or_eq.1 hj with hjm | rfl
    · rw [workAt_ditherPixel_of_lt n P strength hsize' hm hjm]
      exact ih (Nat.le_of_succ_le hm) j hjm
    · exact ⟨_, workAt_ditherPixel_self n P strength hsize' hm⟩

/-- R195: after DITHER every element of WORK is a PAL entry. -/
theorem State.workAt_ditheredWork_mem_pal {s : State} (h : s.work.wf = true) :
    ∀ j < s.work.pix.size, ∃ k, workAt s.ditheredWork.pix j = paletteEntry s.pal k := by
  have hsize := Work.size_of_wf h
  rw [hsize, s.ditheredWork_pix]
  exact workAt_ditherFirst_mem_palette s.params.numeric s.pal s.strength hsize le_rfl

/-- Settles O42: the steps of the elements the dimensions give, which the raster has. -/
theorem ditherCompletes : Obligations.DitherCompletes := by
  intro s hlevel hwork hpal hwf
  refine ⟨_, exec_dither_ok hlevel hwork hpal, s.setWork_complete_completed _, rfl, rfl, s.ditheredWork_wf hwf, ?_,
    s.workAt_ditheredWork_mem_pal hwf⟩
  rw [Work.size_of_wf hwf]
  exact s.ditheredWork_pix

/-! ### Exact arithmetic: pixels without an error -/

/-- Shares of no error leave the raster as it is. -/
theorem spread_exact_zero (W H : Nat) (tx ty : Int) (share : Num) (pix : Array RGB) :
    spread .exact W H (fun _ => 0) tx ty share pix = pix := by
  simp [spread, addShare, setIfInBounds_workAt]

theorem ditherPixel_exact_of_error_zero {P : Palette} {strength : Num} (W H : Nat) {pix : Array RGB} {i : Nat}
    (h : ∀ k, ditherError .exact strength (workAt pix i)
      (paletteEntry P (nearestColorIndex .exact (workAt pix i) P)) k = 0) :
    ditherPixel .exact P strength W H pix i =
      pix.setIfInBounds i (paletteEntry P (nearestColorIndex .exact (workAt pix i) P)) := by
  simp only [ditherPixel, spreadAll, funext h, spread_exact_zero]

/-! ### Exact arithmetic: palette colours -/

theorem dist2_exact_self (c : RGB) : dist2 .exact c c = 0 := by
  simp [dist2_exact]

theorem eq_of_dist2_exact_le_zero {a b : RGB} (h : dist2 .exact a b ≤ 0) : a = b := by
  rw [dist2_exact] at h
  have hr := sq_nonneg (a.r.val - b.r.val)
  have hg := sq_nonneg (a.g.val - b.g.val)
  have hb := sq_nonneg (a.b.val - b.b.val)
  have eq_of_sq {x y : Chan} (hxy : (x.val - y.val) ^ 2 ≤ 0) : x = y :=
    Chan.ext_val (sub_eq_zero.1 ((sq_nonpos_iff _).1 hxy))
  refine RGB.ext_get fun k => ?_
  cases k
  case r => exact eq_of_sq (show (a.r.val - b.r.val) ^ 2 ≤ 0 by linarith)
  case g => exact eq_of_sq (show (a.g.val - b.g.val) ^ 2 ≤ 0 by linarith)
  case b => exact eq_of_sq (show (a.b.val - b.b.val) ^ 2 ≤ 0 by linarith)

/-- R147: the nearest colour to a palette colour is that colour. -/
theorem paletteEntry_nearestColorIndex_exact (P : Palette) (k : Idx) :
    paletteEntry P (nearestColorIndex .exact (paletteEntry P k) P) = paletteEntry P k := by
  obtain ⟨hle, -⟩ := nearestIsFirstMinimum.1 .exact (paletteEntry P k) P k
  exact (eq_of_dist2_exact_le_zero (hle.trans_eq (dist2_exact_self _))).symm

/-- R147: so its index is the lowest that holds it, which is the index of every colour it replaces. -/
theorem nearestColorIndex_exact_idem (c : RGB) (P : Palette) :
    nearestColorIndex .exact (paletteEntry P (nearestColorIndex .exact c P)) P = nearestColorIndex .exact c P := by
  have hsame := paletteEntry_nearestColorIndex_exact P (nearestColorIndex .exact c P)
  obtain ⟨-, hfirst⟩ := nearestIsFirstMinimum.1 .exact c P
    (nearestColorIndex .exact (paletteEntry P (nearestColorIndex .exact c P)) P)
  obtain ⟨-, hlowest⟩ := nearestIsFirstMinimum.1 .exact (paletteEntry P (nearestColorIndex .exact c P)) P
    (nearestColorIndex .exact c P)
  rw [hsame] at hfirst hlowest
  refine BitVec.le_antisymm ?_ ?_
  · exact BitVec.not_lt.1 fun h => lt_irrefl _ (hlowest h)
  · exact BitVec.not_lt.1 fun h => lt_irrefl _ (hfirst h)

/-- R199 (d): a pixel step at a palette colour changes nothing, whatever the strength. -/
theorem ditherPixel_exact_of_mem_palette {P : Palette} (strength : Num) (W H : Nat) {pix : Array RGB} {i : Nat}
    (h : ∃ k, workAt pix i = paletteEntry P k) : ditherPixel .exact P strength W H pix i = pix := by
  obtain ⟨k, hk⟩ := h
  have hnew : paletteEntry P (nearestColorIndex .exact (workAt pix i) P) = workAt pix i := by
    rw [hk, paletteEntry_nearestColorIndex_exact]
  rw [ditherPixel_exact_of_error_zero W H fun _ => by simp [ditherError, hnew], hnew, setIfInBounds_workAt]

theorem ditherFirst_exact_of_mem_palette {P : Palette} (strength : Num) (W H : Nat) {pix : Array RGB} {m : Nat}
    (h : ∀ j < m, ∃ k, workAt pix j = paletteEntry P k) : ditherFirst .exact P strength W H pix m = pix := by
  induction m with
  | zero => rfl
  | succ m ih =>
    rw [ditherFirst_succ, ih fun j hj => h j (Nat.lt_succ_of_lt hj)]
    exact ditherPixel_exact_of_mem_palette strength W H (h m m.lt_succ_self)

theorem State.ditheredWork_of_mem_pal {s : State} (hexact : s.params.numeric = .exact) (hwf : s.work.wf = true)
    (h : ∀ j < s.work.pix.size, ∃ k, workAt s.work.pix j = paletteEntry s.pal k) : s.ditheredWork = s.work := by
  rw [Work.size_of_wf hwf] at h
  have hpix : s.ditheredWork.pix = s.work.pix := by
    rw [s.ditheredWork_pix, hexact, ditherFirst_exact_of_mem_palette s.strength _ _ h]
  exact congrArg (fun pix => { s.work with pix := pix }) hpix

/-- Settles O44: the second DITHER finds every element a palette colour. -/
theorem ditherIsIdempotent : Obligations.DitherIsIdempotent := by
  intro s hexact hlevel hwork hpal hwf
  refine ⟨_, _, exec_dither_ok hlevel hwork hpal, exec_dither_ok hlevel rfl hpal, ?_⟩
  refine State.ditheredWork_of_mem_pal hexact (s.ditheredWork_wf hwf) fun j hj => ?_
  exact s.workAt_ditheredWork_mem_pal hwf j (by simpa [State.ditheredWork] using hj)

/-! ### Exact arithmetic: level 0 -/

/-- R199 (c): a pixel step of strength 0 keeps the index of every element. -/
theorem nearestColorIndex_ditherPixel_zero (P : Palette) (W H : Nat) (pix : Array RGB) (i j : Nat) :
    nearestColorIndex .exact (workAt (ditherPixel .exact P 0 W H pix i) j) P =
      nearestColorIndex .exact (workAt pix j) P := by
  rw [ditherPixel_exact_of_error_zero W H fun _ => by simp [ditherError], workAt_setIfInBounds]
  split_ifs with h
  · rw [h.1, nearestColorIndex_exact_idem]
  · rfl

theorem nearestColorIndex_ditherFirst_zero (P : Palette) (W H : Nat) (pix : Array RGB) (m j : Nat) :
    nearestColorIndex .exact (workAt (ditherFirst .exact P 0 W H pix m) j) P =
      nearestColorIndex .exact (workAt pix j) P := by
  induction m with
  | zero => rfl
  | succ m ih => rw [ditherFirst_succ, nearestColorIndex_ditherPixel_zero, ih]

theorem State.mapIndex_ditheredWork_zero {s : State} (hexact : s.params.numeric = .exact)
    (hlevel : s.options.ditherLevel = 0) (x y : Nat) :
    mapIndex .exact s.ditheredWork s.pal x y = mapIndex .exact s.work s.pal x y := by
  have hstrength : s.strength = 0 := by simp [State.strength, hexact, hlevel]
  simp only [mapIndex, s.ditheredWork_pix, hexact, hstrength, nearestColorIndex_ditherFirst_zero,
    State.ditheredWork_w, State.ditheredWork_h]

/-- Settles O45: MAP reads WORK by its indices alone, which DITHER at level 0 keeps. -/
theorem ditherLevelZeroKeepsIndices : Obligations.DitherLevelZeroKeepsIndices := by
  intro s hexact hlevel hwork hpal _
  refine ⟨_, _, _, exec_dither_ok (by simp [hlevel]) hwork hpal, exec_map_ok rfl hpal, exec_map_ok hwork hpal, ?_⟩
  simp [State.mappedIdx, hexact, State.mapIndex_ditheredWork_zero hexact hlevel]

end Sys2Proof.Machine
end


section
/-!
PROOFS. The conversion (`43_pack.md`): the index raster (R210, R212), the bytes of the PI1 image (R214 to R217), the
preview (R219), and ENCODE with its laws (R222 to R226).
-/

namespace Sys2Proof.Machine

/-! ### MAP -/

theorem idxAt_mappedIdx (s : State) {x y : Nat} (hx : x < 320) (hy : y < 200) :
    idxAt s.mappedIdx (y * 320 + x) = mapIndex s.params.numeric s.work s.pal x y := by
  have hcol : (y * 320 + x) % 320 = x := by omega
  have hrow : (y * 320 + x) / 320 = y := by omega
  rw [State.mappedIdx, idxAt_tabulate _ _ (by omega), hcol, hrow]

/-- What MAP ends in when it raises nothing: a completion with IDX_VALID 1. -/
theorem State.setIdx_complete_completed (s : State) (x : IdxRaster) : s.Completed (s.setIdx x).complete :=
  ⟨rfl, rfl, rfl⟩

/-- Settles O46: the raster of the mapped indices, or ERR_UNINIT. -/
theorem mapIndices : Obligations.MapIndices :=
  fun s => ⟨fun hwork hpal => ⟨_, exec_map_ok hwork hpal, s.setIdx_complete_completed _, rfl,
    fun _ _ hx hy => idxAt_mappedIdx s hx hy⟩, exec_map_uninit⟩

/-! ### A byte or an index made of chosen bits -/

/-- Bit `i` of the or of the bits at `pos j`, for the `j` of a list that `c` chooses. -/
theorem getLsbD_foldl_or_bit {w : Nat} (c : Nat → Bool) (pos : Nat → Nat) (l : List Nat) (acc : BitVec w) {i : Nat}
    (hi : i < w) :
    (l.foldl (fun acc j => if c j then acc ||| (1#w <<< pos j) else acc) acc).getLsbD i =
      (acc.getLsbD i || l.any fun j => c j && decide (pos j = i)) := by
  induction l generalizing acc with
  | nil => simp
  | cons j l ih =>
    have hbit : (1#w <<< pos j).getLsbD i = decide (pos j = i) := by
      rw [BitVec.getLsbD_shiftLeft, BitVec.getLsbD_one, Bool.eq_iff_iff]
      simp only [Bool.and_eq_true, Bool.not_eq_true', decide_eq_true_eq, decide_eq_false_iff_not]
      omega
    rw [List.foldl_cons, ih, List.any_cons]
    cases c j
    · simp
    · simp [hbit, Bool.or_assoc]

/-- A choice made at one `k` of a range alone is the choice at `k`. -/
theorem any_range_and_eq (c : Nat → Bool) (pos : Nat → Nat) {n k : Nat} (hk : k < n)
    (hpos : ∀ j < n, pos j = pos k → j = k) :
    ((List.range n).any fun j => c j && decide (pos j = pos k)) = c k := by
  rw [Bool.eq_iff_iff]
  simp only [List.any_eq_true, List.mem_range, Bool.and_eq_true, decide_eq_true_eq]
  constructor
  · rintro ⟨j, hj, hc, hjk⟩
    rwa [← hpos j hj hjk]
  · exact fun hc => ⟨k, hk, hc, rfl⟩

/-! ### The bytes of the PI1 image -/

/-- R215: the bit of pixel `j` of the eight of a plane byte is the bit of that pixel's index. -/
theorem planeByte_getLsbD (x : IdxRaster) (p y b : Nat) {j : Nat} (hj : j < 8) :
    (planeByte x p y b).getLsbD (7 - j) = (idxAt x (y * 320 + 8 * b + j)).getLsbD p := by
  rw [planeByte, getLsbD_foldl_or_bit _ (fun j => 7 - j) _ _ (by omega),
    any_range_and_eq _ (fun j => 7 - j) hj fun _ _ _ => by omega]
  simp

/-- R217: the planes of eight pixels of index 0 are 0. -/
theorem planeByte_of_idxAt_zero {x : IdxRaster} (p y b : Nat) (h : ∀ j < 8, idxAt x (y * 320 + 8 * b + j) = 0) :
    planeByte x p y b = 0 := by
  refine BitVec.eq_of_getLsbD_eq fun i hi => ?_
  obtain ⟨j, hj, rfl⟩ : ∃ j < 8, i = 7 - j := ⟨7 - i, by omega, by omega⟩
  rw [planeByte_getLsbD x p y b hj, h j hj]
  simp

/-- R116: from offset 34 on the image is its planes. -/
theorem pi1FileByte_plane (n : Numeric) (P : Palette) (x : IdxRaster) {a : Nat} (ha : 34 ≤ a) :
    pi1FileByte n P x a = planeByte x ((a - 34) / 8000) ((a - 34) % 8000 / 40) ((a - 34) % 40) := by
  rw [pi1FileByte, if_neg (by omega), if_neg (by omega)]

theorem planeOffset_lt {p x y : Nat} (hp : p < 4) (hx : x < 320) (hy : y < 200) : planeOffset p x y < 32034 := by
  unfold planeOffset; omega

/-- R215, R117: the bit of pixel (x, y) in plane `p` of the image is bit `p` of the pixel's index. -/
theorem pi1FileByte_planeOffset (n : Numeric) (P : Palette) (r : IdxRaster) (p : Nat) {x y : Nat} (hx : x < 320)
    (hy : y < 200) :
    (pi1FileByte n P r (planeOffset p x y)).getLsbD (planeBit x) = (idxAt r (y * 320 + x)).getLsbD p := by
  unfold planeOffset planeBit
  have hplane : (34 + p * 8000 + y * 40 + x / 8 - 34) / 8000 = p := by omega
  have hrow : (34 + p * 8000 + y * 40 + x / 8 - 34) % 8000 / 40 = y := by omega
  have hbyte : (34 + p * 8000 + y * 40 + x / 8 - 34) % 40 = x / 8 := by omega
  have hpixel : y * 320 + 8 * (x / 8) + x % 8 = y * 320 + x := by omega
  rw [pi1FileByte_plane n P r (by omega), hplane, hrow, hbyte, planeByte_getLsbD r p y (x / 8) (by omega), hpixel]

/-- R216: byte `k` of entry `i`'s colour word, the high one first. -/
theorem pi1FileByte_colourWord (n : Numeric) (P : Palette) (x : IdxRaster) (i : Idx) {k : Nat} (hk : k < 2) :
    pi1FileByte n P x (2 + 2 * i.toNat + k) = beByte (rgbToAtariWord n (paletteEntry P i)) k := by
  have hi := i.isLt
  have hentry : (2 + 2 * i.toNat + k - 2) / 2 = i.toNat := by omega
  have hbyte : (2 + 2 * i.toNat + k) % 2 = k := by omega
  rw [pi1FileByte, if_neg (by omega), if_pos (by omega), hentry, hbyte, BitVec.ofNat_toNat, BitVec.setWidth_eq]

theorem pi1FileByte_header (n : Numeric) (P : Palette) (x : IdxRaster) (i : Idx) :
    pi1FileByte n P x (2 + 2 * i.toNat) = (rgbToAtariWord n (paletteEntry P i)).extractLsb' 8 8 ∧
    pi1FileByte n P x (3 + 2 * i.toNat) = (rgbToAtariWord n (paletteEntry P i)).extractLsb' 0 8 := by
  have hlow : 3 + 2 * i.toNat = 2 + 2 * i.toNat + 1 := by omega
  rw [hlow]
  exact ⟨pi1FileByte_colourWord n P x i (k := 0) (by omega), pi1FileByte_colourWord n P x i (k := 1) (by omega)⟩

/-! ### PACK -/

theorem Memory.isSome_at?_full (size : Nat) (f : Nat → Byte) (a : Nat) :
    ((Memory.full size f).at? a).isSome = true ↔ a < size := by
  rw [Memory.at?_full]
  split_ifs with h <;> simp [h]

theorem State.at?_packedOut (s : State) {a : Nat} (ha : a < 32034) :
    s.packedOut.at? a = some (pi1FileByte s.params.numeric s.pal s.idx a) :=
  (Memory.at?_full _ _ a).trans (if_pos ha)

/-- What PACK ends in when it raises nothing: a completion with OUT_VALID 1. -/
theorem State.setOut_complete_completed (s : State) (m : Memory) : s.Completed (s.setOut m).complete :=
  ⟨rfl, rfl, rfl⟩

/-- Settles O47: the offset of R117 is inside OUT, and its byte has the bit of the pixel's index. -/
theorem packPlaneBits : Obligations.PackPlaneBits := by
  intro s hidx hpal
  refine ⟨_, exec_pack_ok hidx hpal, s.setOut_complete_completed _, rfl, fun p x y hp hx hy => ?_⟩
  exact ⟨_, s.at?_packedOut (planeOffset_lt hp hx hy), pi1FileByte_planeOffset _ _ _ p hx hy⟩

/-- Settles O48: the resolution word, the sixteen colour words and the extent of a buffer written as a whole. -/
theorem packHeader : Obligations.PackHeader := by
  intro s hidx hpal
  refine ⟨_, exec_pack_ok hidx hpal, s.at?_packedOut (by omega), s.at?_packedOut (by omega), fun i => ?_,
    Memory.isSome_at?_full _ _⟩
  obtain ⟨hhigh, hlow⟩ := pi1FileByte_header s.params.numeric s.pal s.idx i
  have hi := i.isLt
  rw [State.complete_out, State.setOut_out, s.at?_packedOut (by omega), s.at?_packedOut (by omega), hhigh, hlow]
  exact ⟨rfl, rfl⟩

/-! ### PREVIEW -/

/-- R220: for exact arithmetic the rounded channel is in 0..255, so the byte holds it. -/
theorem channelByte_exact_toNat (v : Chan) : ((channelByte .exact v).toNat : Int) = (v.val + 1 / 2 : Num).floor := by
  have hlo := v.lo
  have hhi := v.hi
  have hmem : 0 ≤ (v.val + 1 / 2 : Num).floor ∧ (v.val + 1 / 2 : Num).floor < 256 := by
    rw [num_floor_eq, Int.le_floor, Int.floor_lt]
    constructor <;> push_cast <;> linarith
  simp only [channelByte, Numeric.exact_rhu, BitVec.toNat_ofInt]
  omega

/-- R219: the four bytes of pixel `m`. -/
theorem at?_rgbaRaster (n : Numeric) (P : Palette) (x : IdxRaster) {m k : Nat} (hm : m < 64000) (hk : k < 4) :
    (rgbaRaster n P x).at? (4 * m + k) = some (rgbaByte n (paletteEntry P (idxAt x m)) k) := by
  have hpixel : (4 * m + k) / 4 = m := by omega
  have hbyte : (4 * m + k) % 4 = k := by omega
  rw [rgbaRaster, Memory.at?_full, if_pos (by omega), hpixel, hbyte]

/-- What PREVIEW ends in when it raises nothing: a completion with RGBA_VALID 1. -/
theorem State.setRgba_complete_completed (s : State) (m : Memory) : s.Completed (s.setRgba m).complete :=
  ⟨rfl, rfl, rfl⟩

/-- Settles O49: the bytes of a pixel are those of its palette entry, which exact arithmetic does not cut. -/
theorem previewPixels : Obligations.PreviewPixels := by
  refine fun s => ⟨fun hidx hpal => ⟨_, exec_preview_ok hidx hpal, s.setRgba_complete_completed _, rfl,
    fun m hm => ?_⟩, exec_preview_uninit⟩
  have hbyte {k : Nat} (hk : k < 4) := at?_rgbaRaster s.params.numeric s.pal s.idx hm hk
  refine ⟨_, _, _, hbyte (k := 0) (by omega), hbyte (k := 1) (by omega), hbyte (k := 2) (by omega),
    hbyte (k := 3) (by omega), rfl, rfl, rfl, fun hexact => ?_⟩
  simp only [hexact]
  exact ⟨channelByte_exact_toNat _, channelByte_exact_toNat _, channelByte_exact_toNat _⟩

/-! ### ENCODE: the checks -/

theorem exec_encode_badOption {s : State} (h : 10 < s.options.ditherLevel.toNat) :
    exec .encode s = .next (s.raise .badOption) :=
  command_error (if_pos h)

theorem exec_encode_capacity {s : State} (hl : s.options.ditherLevel.toNat ≤ 10) (h : s.overCapacity = true) :
    exec .encode s = .next (s.raise .capacity) :=
  command_error ((if_neg (Nat.not_lt.2 hl)).trans (if_pos h))

theorem exec_encode_shortInput {s : State} (hl : s.options.ditherLevel.toNat ≤ 10) (hc : s.overCapacity = false)
    (h : s.options.customValid = false ∧ s.options.srcIsPi1 = true ∧ s.inLen.toNat < 34) :
    exec .encode s = .next (s.raise .shortInput) :=
  command_error ((if_neg (Nat.not_lt.2 hl)).trans ((if_neg (Bool.eq_false_iff.1 hc)).trans (if_pos h)))

/-- R222: what ENCODE ends in when it raises nothing. -/
theorem State.encoded_complete_completed (s : State) : s.Completed s.encoded.complete :=
  ⟨rfl, rfl, rfl⟩

/-- Settles O50: the three checks in their order, and the buffers ENCODE writes as wholes. -/
theorem encodeAllOrNothing : Obligations.EncodeAllOrNothing :=
  fun s => ⟨exec_encode_badOption, exec_encode_capacity,
    fun hl hc hcustom hpi1 hlen => exec_encode_shortInput hl hc ⟨hcustom, hpi1, hlen⟩,
    fun h => ⟨_, exec_encode_ok h, s.encoded_complete_completed, rfl, rfl, rfl, rfl, rfl,
      Memory.isSome_at?_full _ _, Memory.isSome_at?_full _ _⟩⟩

/-! ### ENCODE and its step commands -/

@[simp] theorem thenExec_next (s : State) (i : Instr) : thenExec (.next s) i = exec i s := rfl

/-- R224: SELPAL and LOADWORK, from a state that passes ENCODE's checks. -/
theorem selpal_thenExec_loadwork {s : State} (h : s.encodeReady = true) :
    thenExec (exec .selpal s) .loadwork = .next ((s.setPal s.selectedPalette).setWork s.loadedWork).complete := by
  rw [exec_selpal_ok (selpalReady_of_encodeReady h)]
  exact exec_loadwork_ok (s := (s.setPal s.selectedPalette).complete) (encodeReady_capacity h)

/-- R224: DITHER, if the level is above 0, leaves the raster ENCODE maps. -/
theorem exec_dither_if_asked {s : State} (h : s.encodeReady = true) :
    (if 0 < s.options.ditherLevel.toNat then
        exec .dither ((s.setPal s.selectedPalette).setWork s.loadedWork).complete
      else .next ((s.setPal s.selectedPalette).setWork s.loadedWork).complete) =
      .next ((s.setPal s.selectedPalette).setWork s.encodedWork).complete := by
  unfold State.encodedWork
  split_ifs
  · exact exec_dither_ok (encodeReady_level h) rfl rfl
  · rfl

/-- R224: MAP, PACK and PREVIEW, from the palette and the raster ENCODE maps. -/
theorem map_thenExec_pack_thenExec_preview (s : State) :
    thenExec (thenExec (exec .map ((s.setPal s.selectedPalette).setWork s.encodedWork).complete) .pack) .preview =
      .next s.encoded.complete := by
  rw [exec_map_ok rfl rfl, thenExec_next, exec_pack_ok rfl rfl, thenExec_next, exec_preview_ok rfl rfl]
  rfl

/-- Settles O51: each step command leaves what ENCODE's step leaves, and completes. -/
theorem encodeEqualsStepCommands : Obligations.EncodeEqualsStepCommands := by
  intro s h
  simp only [encodeByCommands, selpal_thenExec_loadwork h, thenExec_next, exec_dither_if_asked h]
  rw [map_thenExec_pack_thenExec_preview, exec_encode_ok h]

/-! ### ENCODE twice -/

/-- R88: on the same inputs ENCODE writes the same five buffers. -/
theorem State.SameEncodeInputs.encoded_eq {s s' : State} (h : s.SameEncodeInputs s') :
    s.encoded = s.overwrite (writeSet .encode) s'.encoded := by
  rw [State.encoded, h.selectedPalette_eq, h.encodedWork_eq, h.encodedIdx_eq, h.params]
  rfl

theorem State.encoded_sameEncodeInputs (s : State) : s.encoded.complete.SameEncodeInputs s :=
  ⟨rfl, rfl, rfl, rfl, rfl, rfl, rfl, rfl⟩

/-- Settles O53: ENCODE writes none of its inputs, so the second writes the buffers the first has written. -/
theorem encodeTwiceSameState : Obligations.EncodeTwiceSameState := by
  intro s h
  have hsame := s.encoded_sameEncodeInputs
  refine ⟨_, exec_encode_ok h, ?_⟩
  rw [exec_encode_ok (hsame.encodeReady_eq.trans h), hsame.encoded_eq]
  rfl

/-! ### ENCODE of no pixels -/

/-- R212: no pixel is within source bounds when a dimension is not positive. -/
theorem mapIndex_of_nonpos (n : Numeric) {k : Work} (P : Palette) (x y : Nat) (h : k.w.toInt ≤ 0 ∨ k.h.toInt ≤ 0) :
    mapIndex n k P x y = 0 := by
  rw [mapIndex, if_neg (by omega)]

theorem idxAt_encodedIdx_of_nonpos {s : State} (h : s.width.toInt ≤ 0 ∨ s.height.toInt ≤ 0) {m : Nat}
    (hm : m < 64000) : idxAt s.encodedIdx m = 0 := by
  obtain ⟨hw, hh⟩ := s.encodedWork_dims
  rw [State.encodedIdx, State.mappedIdx, idxAt_tabulate _ _ hm]
  exact mapIndex_of_nonpos _ _ _ _ (by simpa [hw, hh] using h)

/-- R217: every plane byte of an image whose indices are all 0 is 0. -/
theorem pi1FileByte_of_idxAt_zero (n : Numeric) (P : Palette) {x : IdxRaster} (h : ∀ m < 64000, idxAt x m = 0)
    {a : Nat} (ha : 34 ≤ a) : pi1FileByte n P x a = 0 := by
  rw [pi1FileByte_plane n P x ha]
  exact planeByte_of_idxAt_zero _ _ _ fun j hj => h _ (by omega)

/-- R226: with the reset options and no samples the palette is the default one. -/
theorem selectedPalette_of_reset_of_nonpos {s : State} (ho : s.options = .reset)
    (h : s.width.toInt ≤ 0 ∨ s.height.toInt ≤ 0) : s.selectedPalette = s.params.defaultPalette := by
  have hsamples : s.samples s.width s.height = [] := (samplesAreOpaquePixels s s.width s.height).2 h
  rw [State.selectedPalette, ho, hsamples]
  exact optimizedPalette_of_lt s.params (S := []) (by decide)

/-- Settles O52: no pixel is in bounds, so the planes are those of index 0, and there are no samples. -/
theorem encodeOfDegenerateSize : Obligations.EncodeOfDegenerateSize := by
  intro s hready h
  have hidx : ∀ m < 64000, idxAt s.encodedIdx m = 0 := fun m => idxAt_encodedIdx_of_nonpos h
  refine ⟨_, exec_encode_ok hready, s.encoded_complete_completed, hidx, fun a ha ha' => ?_,
    fun ho => selectedPalette_of_reset_of_nonpos ho h⟩
  rw [State.complete_out, State.encoded_out, Memory.at?_full, if_pos ha', pi1FileByte_of_idxAt_zero _ _ hidx ha]

/-! ### DECODE of a packed image -/

/-- R225: the PI1 input bytes are the image of the palette `P` and the indices `x`. -/
def State.HoldsImage (s : State) (n : Numeric) (P : Palette) (x : IdxRaster) : Prop :=
  ∀ a < 32034, s.pi1Byte a = pi1FileByte n P x a

/-- R225: an image written to OUT as a whole is the one the copy holds. -/
theorem State.outCopiedToPi1in_holdsImage {s : State} {n : Numeric} {P : Palette} {x : IdxRaster}
    (h : s.out = Memory.full 32034 (pi1FileByte n P x)) : s.outCopiedToPi1in.HoldsImage n P x := by
  intro a ha
  show (s.out.at? a).getD _ = _
  rw [h, Memory.at?_full, if_pos ha]
  rfl

/-- R73: a word is its high byte before its low byte. -/
theorem word16_of_bytes (w : Word16) :
    ((w.extractLsb' 8 8).setWidth 16 <<< 8) ||| (w.extractLsb' 0 8).setWidth 16 = w := by
  refine BitVec.eq_of_getLsbD_eq fun i hi => ?_
  simp only [BitVec.getLsbD_or, BitVec.getLsbD_shiftLeft, BitVec.getLsbD_setWidth, BitVec.getLsbD_extractLsb']
  by_cases h8 : i < 8
  · simp [h8, hi]
  · have hlow : i - 8 < 16 ∧ i - 8 < 8 ∧ 8 + (i - 8) = i := by omega
    simp [h8, hi, hlow]

/-- R241: the palette read back from an image is its colour words expanded. -/
theorem State.HoldsImage.extractedPalette_entry {s : State} {n : Numeric} {P : Palette} {x : IdxRaster}
    (h : s.HoldsImage n P x) (i : Idx) :
    paletteEntry s.extractedPalette i = atariWordToRgb s.params.numeric (rgbToAtariWord n (paletteEntry P i)) := by
  have hi := i.isLt
  obtain ⟨hhigh, hlow⟩ := pi1FileByte_header n P x i
  rw [s.extractedPalette_entry, h _ (by omega), h _ (by omega), hhigh, hlow, word16_of_bytes]

/-- R244: bit `p` of a decoded index is the bit of the pixel in plane `p`. -/
theorem State.decodedIndex_getLsbD (s : State) {p : Nat} (x y : Nat) (hp : p < 4) :
    (s.decodedIndex x y).getLsbD p = (s.pi1Byte (planeOffset p x y)).getLsbD (planeBit x) := by
  rw [State.decodedIndex, getLsbD_foldl_or_bit _ (fun p => p) _ _ hp, any_range_and_eq _ (fun p => p) hp fun _ _ h => h]
  simp

/-- R244: the indices read back from an image are its indices. -/
theorem State.HoldsImage.decodedIdx_eq {s : State} {n : Numeric} {P : Palette} {x : IdxRaster}
    (h : s.HoldsImage n P x) : s.decodedIdx = x := by
  refine idxRaster_ext fun m hm => ?_
  have hx : m % 320 < 320 := by omega
  have hy : m / 320 < 200 := by omega
  rw [State.decodedIdx, idxAt_tabulate _ _ hm]
  refine BitVec.eq_of_getLsbD_eq fun p hp => ?_
  rw [s.decodedIndex_getLsbD _ _ hp, h _ (planeOffset_lt hp hx hy), pi1FileByte_planeOffset n P x p hx hy,
    Nat.div_add_mod']

/-- Settles O58: ENCODE's OUT is the image of the palette and the indices it wrote. -/
theorem encodeDecodeRoundTrip : Obligations.EncodeDecodeRoundTrip := by
  intro s h
  have himage : s.encoded.complete.outCopiedToPi1in.HoldsImage s.params.numeric s.selectedPalette s.encodedIdx :=
    State.outCopiedToPi1in_holdsImage s.encoded_out
  exact ⟨_, _, exec_encode_ok h, exec_decode_ok (by decide : 32034 ≤ (32034#32).toNat), rfl, himage.decodedIdx_eq,
    himage.extractedPalette_entry⟩

end Sys2Proof.Machine
end


section
/-!
PROOFS. The unpacker (`44_decode.md`): the palette and the indices DECODE reads, or its error (R240 to R244), the
pixels it shows (R245), and DECODE of the bytes PACK wrote (R244, R174).
-/

namespace Sys2Proof.Machine

/-! ### What DECODE reads -/

/-- R244: the decoded raster holds, in row-major order, the index read for each canvas pixel. -/
theorem idxAt_decodedIdx (s : State) {x y : Nat} (hx : x < 320) (hy : y < 200) :
    idxAt s.decodedIdx (y * 320 + x) = s.decodedIndex x y := by
  have hcol : (y * 320 + x) % 320 = x := by omega
  have hrow : (y * 320 + x) / 320 = y := by omega
  rw [State.decodedIdx, idxAt_tabulate _ _ (by omega), hcol, hrow]

/-- R244: bit `p` of the decoded index of pixel (x, y) is the bit R117 places in plane `p`. -/
theorem idxAt_decodedIdx_getLsbD (s : State) {p x y : Nat} (hp : p < 4) (hx : x < 320) (hy : y < 200) :
    (idxAt s.decodedIdx (y * 320 + x)).getLsbD p = (s.pi1Byte (planeOffset p x y)).getLsbD (planeBit x) := by
  rw [idxAt_decodedIdx s hx hy, s.decodedIndex_getLsbD x y hp]

/-- Settles O55: the palette of the header words and the index bits of the planes, or ERR_SHORT_INPUT. -/
theorem decodeReadsPaletteAndPlanes : Obligations.DecodeReadsPaletteAndPlanes :=
  fun s => ⟨fun h => ⟨_, exec_decode_ok h, ⟨rfl, rfl, rfl⟩, rfl, rfl, rfl, s.extractedPalette_entry,
    fun _ _ _ hp hx hy => idxAt_decodedIdx_getLsbD s hp hx hy⟩, fun h => command_error (decodeBody_error h)⟩

/-! ### The pixels DECODE shows -/

/-- R245: the byte `b` is `rhu` of the channel `v`, not cut, and one of the eight a decoded image shows. -/
def ShowsChannel (n : Numeric) (v : Chan) (b : Byte) : Prop :=
  (b.toNat : Int) = n.rhu v.val ∧ b ∈ [0#8, 36#8, 73#8, 109#8, 146#8, 182#8, 219#8, 255#8]

/-- R245: each of the eight quantized channels, expanded, is shown by its byte, under either `NUMERIC`. -/
theorem showsChannel_channelByte_expandChannel (n : Numeric) : ∀ q : Q3,
    ShowsChannel n (expandChannel n q) (channelByte n (expandChannel n q)) := by
  unfold ShowsChannel
  cases n <;> decide +kernel

/-- R241, R245: so is every channel of an extracted palette, since an entry is an expanded colour word. -/
theorem State.showsChannel_extractedPalette (s : State) (i : Idx) (k : Channel) :
    ShowsChannel s.params.numeric ((paletteEntry s.extractedPalette i).get k)
      (channelByte s.params.numeric ((paletteEntry s.extractedPalette i).get k)) := by
  rw [s.extractedPalette_entry]
  cases k <;> exact showsChannel_channelByte_expandChannel _ _

/-- Settles O56: the four bytes of a pixel are those of its palette entry, whose channels are expanded ones. -/
theorem decodePixels : Obligations.DecodePixels := by
  refine fun s h => ⟨_, exec_decode_ok h, fun m hm => ?_⟩
  have hbyte {k : Nat} (hk : k < 4) := at?_rgbaRaster s.params.numeric s.extractedPalette s.decodedIdx hm hk
  obtain ⟨hr, hr8⟩ := s.showsChannel_extractedPalette (idxAt s.decodedIdx m) .r
  obtain ⟨hg, hg8⟩ := s.showsChannel_extractedPalette (idxAt s.decodedIdx m) .g
  obtain ⟨hb, hb8⟩ := s.showsChannel_extractedPalette (idxAt s.decodedIdx m) .b
  exact ⟨_, _, _, hbyte (k := 0) (by omega), hbyte (k := 1) (by omega), hbyte (k := 2) (by omega),
    hbyte (k := 3) (by omega), hr, hg, hb, hr8, hg8, hb8⟩

/-! ### DECODE of the bytes PACK wrote -/

/-- Settles O57: PACK's OUT is the image of PAL and IDX, and an image decodes to its indices and its colour words. -/
theorem packDecodeRoundTrip : Obligations.PackDecodeRoundTrip := by
  intro s hidx hpal
  have himage : (s.setOut s.packedOut).complete.outCopiedToPi1in.HoldsImage s.params.numeric s.pal s.idx :=
    State.outCopiedToPi1in_holdsImage rfl
  exact ⟨_, _, exec_pack_ok hidx hpal, exec_decode_ok (by decide : 32034 ≤ (32034#32).toNat), rfl,
    himage.decodedIdx_eq, himage.extractedPalette_entry⟩

end Sys2Proof.Machine
end

section
/-!
PROOFS. NOP ends as every command without an error does, and does nothing else (`45_system.md` R250).
-/

namespace Sys2Proof.Machine

/-- R250: NOP's pseudocode answers the state it found, so all it does is complete (R261). -/
theorem exec_nop (s : State) : exec .nop s = .next s.complete := command_ok (body := Body.skip) rfl

/-- Settles O31: completing writes the engine's state only, and DONE has number 1 and error code 0. -/
theorem nopOnlyCompletes : Obligations.NopOnlyCompletes := fun s => ⟨exec_nop s, rfl, rfl⟩

end Sys2Proof.Machine
end

section
/-!
PROOFS. The exceptions (`60_exceptions.md`): how a command ends (R261, R262), which error it reports (R260, R265), and
what sets and clears ERR_STICKY (R266).
-/

namespace Sys2Proof.Machine

/-! ### How a command ends -/

/-- R262: RESET ends IDLE and a completed command DONE, so a command that ends in ERROR has raised that error. -/
theorem exec_eq_raise_of_error {i : Instr} {s t : State} {e : ErrCode} (h : exec i s = .next t)
    (he : t.status.engine = .error e) : t = s.raise e := by
  by_cases hi : i = .reset
  · subst hi
    cases h; cases he
  · rcases exec_next hi h with ⟨u, rfl⟩ | ⟨e', rfl⟩
    · cases he
    · cases he; rfl

/-- Settles O13: the state after a failed command is `raise` of the state before it. -/
theorem failedCommandChangesOnlyStatus : Obligations.FailedCommandChangesOnlyStatus := by
  intro i s t e h he
  obtain rfl := exec_eq_raise_of_error h he
  exact ⟨rfl, rfl, rfl, rfl⟩

/-- R51, R251: STATUS is 0 after reset. -/
theorem Status.toWord_reset : Status.reset.toWord = 0 := by decide

/-- Settles O14: a command that does not raise has written its write set, which holds neither STATE nor ERR_STICKY, and
completed. -/
theorem completionStatus : Obligations.CompletionStatus := by
  refine ⟨fun i s t hi h hne => ?_, fun s => ⟨_, exec_reset s, Status.toWord_reset⟩⟩
  rcases exec_next hi h with ⟨u, rfl⟩ | ⟨e, rfl⟩
  · exact ⟨rfl, rfl, rfl⟩
  · exact absurd rfl (hne e)

/-! ### The error a pseudocode raises -/

/-- The error of a pseudocode's result, if it is one. -/
def raised : Except ErrCode State → Option ErrCode
  | .ok _ => none
  | .error e => some e

@[simp] theorem raised_ok (t : State) : raised (.ok t) = none := rfl
@[simp] theorem raised_error (e : ErrCode) : raised (.error e) = some e := rfl

/-- A check raises its error when its condition holds, and otherwise leaves the raising to what follows it. -/
@[simp] theorem raised_check (c : Prop) [Decidable c] (e : ErrCode) (r : Except ErrCode State) :
    raised (if c then .error e else r) = if c then some e else raised r := by
  split_ifs <;> rfl

/-- R176: SELPAL raises what the branch it takes raises. -/
theorem raised_selpalBody (s : State) : raised (selpalBody s) =
    if s.options.customValid then none
    else if s.options.srcIsPi1 then if s.inLen.toNat < 34 then some .shortInput else none
    else if s.options.useOpt then if s.overCapacity then some .capacity else none
    else none := by
  simp only [selpalBody, setpalBody, extpalBody, buildpalBody, defpalBody, apply_ite raised, raised_ok, raised_error]

theorem encodeReady_of_checks {s : State} (hl : ¬ 10 < s.options.ditherLevel.toNat) (hc : ¬ s.overCapacity = true)
    (hs : ¬ (s.options.customValid = false ∧ s.options.srcIsPi1 = true ∧ s.inLen.toNat < 34)) :
    s.encodeReady = true := by
  by_contra h
  exact hs (by simpa [State.encodeReady, Nat.not_lt.1 hl, hc, and_assoc] using h)

/-- R223: ENCODE raises nothing after its three checks. -/
theorem raised_encodeBody (s : State) : raised (encodeBody s) =
    if 10 < s.options.ditherLevel.toNat then some .badOption
    else if s.overCapacity then some .capacity
    else if s.options.customValid = false ∧ s.options.srcIsPi1 = true ∧ s.inLen.toNat < 34 then some .shortInput
    else none := by
  simp only [encodeBody, raised_check]
  split_ifs with hl hc hs
  · rfl
  · rfl
  · rfl
  · rw [encodeSteps_ok (encodeReady_of_checks hl hc hs), raised_ok]

/-! ### The error reported -/

/-- R265: the order of priority, as a chain of tests; ERR_BAD_OPCODE is no cause of a command's. -/
theorem reported_eq (i : Instr) (s : State) : reported i s =
    if cause i s .badOption then some .badOption
    else if cause i s .capacity then some .capacity
    else if cause i s .shortInput then some .shortInput
    else if cause i s .uninit then some .uninit
    else none := by
  have hopcode : cause i s .badOpcode = false := rfl
  unfold reported errPriority
  split_ifs <;> simp [*]

/-- R260, R265: a command's pseudocode raises the error to be reported. -/
theorem raised_bodyOf (i : Instr) (s : State) : raised (bodyOf i s) = reported i s := by
  rw [reported_eq]
  cases i with
  | nop | defpal | setpal | reset => rfl
  | buildpal => simp [bodyOf, buildpalBody, cause]
  | extpal => simp [bodyOf, extpalBody, cause]
  | selpal =>
    simp only [bodyOf, raised_selpalBody, cause]
    by_cases hcustom : s.options.customValid = true
    · simp [hcustom]
    · by_cases hpi1 : s.options.srcIsPi1 = true
      · simp [hcustom, hpi1]
      · simp [hcustom, hpi1, ite_and]
  | loadwork => simp [bodyOf, loadworkBody, cause]
  | dither => simp [bodyOf, ditherBody, cause]
  | map => simp [bodyOf, mapBody, cause]
  | pack => simp [bodyOf, packBody, cause]
  | preview => simp [bodyOf, previewBody, cause]
  | encode => simp [bodyOf, raised_encodeBody, cause, and_assoc]
  | decode => simp [bodyOf, decodeBody, cause]

/-- Settles O15: a command ends in what its pseudocode raises, and a reserved word has no pseudocode. -/
theorem reportedErrorFollowsPriority : Obligations.ReportedErrorFollowsPriority := by
  refine ⟨fun i s hi => ?_, fun v s hv => ⟨_, hostRegWrite_cmd_of_decode_ne_ok hv s, rfl⟩⟩
  rw [exec_body hi, ← raised_bodyOf]
  rcases command_cases (bodyOf i) s with ⟨t, hb, hc⟩ | ⟨e, hb, hc⟩
  · exact ⟨_, hc, by rw [hb]; rfl⟩
  · exact ⟨_, hc, by rw [hb]; rfl⟩

/-! ### ERR_STICKY -/

theorem exec_keeps_sticky {i : Instr} {s t : State} (hi : i ≠ .reset) (h : exec i s = .next t)
    (hs : s.status.errSticky = true) : t.status.errSticky = true := by
  rcases exec_next hi h with ⟨u, rfl⟩ | ⟨e, rfl⟩
  · exact hs
  · rfl

theorem issue_clears_sticky {v : Word} {s t : State} (h : issue v s = .next t) (hs : s.status.errSticky = true)
    (ht : t.status.errSticky = false) : decode v = .ok .reset := by
  rcases issue_next h with ⟨i, hd, hi⟩ | rfl
  · by_cases hr : i = .reset
    · rw [hd, hr]
    · simp [exec_keeps_sticky hr hi hs] at ht
  · simp at ht

/-- R266: the moves that clear ERR_STICKY. -/
theorem hostMove_clears_sticky_iff {m : HostMove} {s t : State} (h : hostMove m s = .next t)
    (hs : s.status.errSticky = true) :
    t.status.errSticky = false ↔ m = .hardReset ∨ ∃ v, m = .regWrite 0 v ∧ decode v = .ok .reset := by
  constructor
  · intro ht
    rcases hostMove_next h with ⟨v, hm, hv⟩ | ⟨hm, -⟩ | ⟨-, hstatus⟩
    · exact .inr ⟨v, hm, issue_clears_sticky hv hs ht⟩
    · exact .inl hm
    · simp [hstatus, hs] at ht
  · rintro (rfl | ⟨v, rfl, hd⟩)
    · cases h; rfl
    · have hissue : issue v s = .next t := h
      rw [issue_ok hd, exec_reset] at hissue
      cases hissue; rfl

/-- Settles O16: the moves that clear ERR_STICKY, and `raise`, which sets it. -/
theorem stickyClearedOnlyByReset : Obligations.StickyClearedOnlyByReset := by
  refine ⟨fun m s t => hostMove_clears_sticky_iff, fun i s t e h he => ?_⟩
  rw [exec_eq_raise_of_error h he, State.raise_errSticky]

end Sys2Proof.Machine
end

section
/-!
PROOFS. Reset and hazards (`70_reset_and_hazards.md`): which host move a step makes (R36, R81, R290), the reset state
(R251, R290), host reads (R78, R292), and the invariant every step keeps.
-/

namespace Sys2Proof.Machine

/-! ### The next host move -/

theorem step_of_pending {s : State} {m : HostMove} {rest : List HostMove} (h : s.host.script = m :: rest) :
    step s = hostMove m (s.taking rest) := by
  simp [step, hostStep, h]

/-- Settles O6: an empty script is the idle case of a step. -/
theorem idleStepChangesNothing : Obligations.IdleStepChangesNothing := by
  intro s h
  simp [step, hostStep, h]

/-- Settles O4: a write to CMD issues its word, which `decode` makes a command or a reserved word. -/
theorem stepRunsDecodedCommand : Obligations.StepRunsDecodedCommand := by
  refine ⟨fun s m rest => step_of_pending, fun s => ⟨fun _ => rfl, fun _ _ => rfl, fun _ _ => rfl,
    fun _ _ _ => rfl, rfl⟩, fun s v rest i hd _ h => ?_, fun s v rest hv h => ?_⟩
  · rw [step_of_pending h]
    exact issue_ok hd _
  · rw [step_of_pending h]
    exact hostRegWrite_cmd_of_decode_ne_ok hv _

/-- Settles O5: the placed move writes `encode i` to CMD, and `encode i` decodes to `i`. -/
theorem placedWordRunsNext : Obligations.PlacedWordRunsNext := by
  intro s i
  have hword : BitVec.ofNat 32 ((encode i).toNat % 2 ^ 32) = encode i := by
    rw [Nat.mod_eq_of_lt (encode i).isLt, BitVec.ofNat_toNat, BitVec.setWidth_eq]
  rw [State.withFetchWord, hword, step_of_pending (m := .regWrite 0 (encode i)) rfl]
  exact issue_ok (decode_encode i) _

/-! ### Reset -/

/-- Settles O8: RESET and the hardware reset answer `resetMachine`, whose registers and STATUS are those of reset. -/
theorem resetCommandRestoresReset : Obligations.ResetCommandRestoresReset :=
  fun s => ⟨s.resetMachine, exec_reset s, rfl, fun _ => rfl, rfl, Status.toWord_reset, rfl, rfl,
    fun _ => ⟨rfl, rfl⟩, rfl, rfl⟩

/-- R160: the reference parameters are legal, whatever the free channels of the default palette are. -/
theorem Params.reference_ok : Params.reference.ok = true := by
  simp [Params.ok, Params.reference, Config.defaultPalette]

/-- R290: reset leaves a state that meets the invariant, since the parameters it keeps are legal. -/
theorem State.resetMachine_inv {s : State} (h : s.params.ok = true) : s.resetMachine.Inv where
  params := h
  src := rfl
  pi1in := rfl
  out := rfl
  rgbaout := rfl
  work := rfl
  outAll := nofun
  rgbaAll := nofun
  idle _ := rfl
  error := nofun

/-- Settles O9: the reset state is the machine reset with the reference parameters, but for the count of resets. -/
theorem resetMeetsInvariant : Obligations.ResetMeetsInvariant :=
  { State.resetMachine_inv (s := State.reset) Params.reference_ok with }

/-! ### Host reads -/

theorem hostRegRead_of_some {s : State} {n : Nat} {v : Word} (h : s.regRead? n = some v) :
    hostRegRead n s = .next { s with host := { s.host with answer := .word v } } := by
  simp [hostRegRead, h]

theorem hostBufRead_of_some {s : State} {S : Space} {a : Nat} {b : Byte} (ha : a < spaceSize s.params S)
    (h : s.bufByte? S a = some b) :
    hostBufRead S a s = .next { s with host := { s.host with answer := .byte b } } := by
  simp [hostBufRead, ha, h]

theorem hostBufRead_of_none {s : State} {S : Space} {a : Nat} (ha : a < spaceSize s.params S)
    (h : s.bufByte? S a = none) : hostBufRead S a s = .refused (.outputNeverWritten S) := by
  simp [hostBufRead, ha, h]

/-- Settles O25: a read that has a value changes the answer only. -/
theorem readsHaveNoSideEffect : Obligations.ReadsHaveNoSideEffect :=
  fun _ => ⟨fun _ _ => hostRegRead_of_some, fun _ _ _ => hostBufRead_of_some⟩

/-! ### Reading a wholly written buffer -/

/-- Strictly rising offsets from `lo` on and below `hi` are at most `hi - lo` many. -/
theorem Memory.length_le_of_risingFrom {m : Memory} {lo hi : Nat} (hm : m.risingFrom lo = true)
    (hlt : ∀ cell ∈ m, cell.1 < hi) : m.length ≤ hi - lo := by
  induction m generalizing lo with
  | nil => simp
  | cons cell m ih =>
    obtain ⟨k, b⟩ := cell
    simp only [Memory.risingFrom, Bool.and_eq_true, decide_eq_true_eq] at hm
    simp only [List.forall_mem_cons] at hlt
    have htail := ih hm.2 hlt.2
    simp only [List.length_cons]
    omega

/-- When they are as many as that, no offset is missing: the first listed one has to be `lo`. -/
theorem Memory.exists_at?_of_risingFrom {m : Memory} {lo hi a : Nat} (hm : m.risingFrom lo = true)
    (hlt : ∀ cell ∈ m, cell.1 < hi) (hlen : m.length = hi - lo) (hlo : lo ≤ a) (hhi : a < hi) :
    ∃ b, m.at? a = some b := by
  induction m generalizing lo with
  | nil => simp at hlen; omega
  | cons cell m ih =>
    obtain ⟨k, b⟩ := cell
    simp only [Memory.risingFrom, Bool.and_eq_true, decide_eq_true_eq] at hm
    simp only [List.forall_mem_cons] at hlt
    have htail := Memory.length_le_of_risingFrom hm.2 hlt.2
    simp only [List.length_cons] at hlen
    obtain rfl : k = lo := by omega
    by_cases ha : a = k
    · exact ⟨b, by simp [Memory.at?, ha]⟩
    · simpa [Memory.at?, ha] using ih hm.2 hlt.2 (by omega) (by omega)

theorem Memory.exists_at?_of_complete {m : Memory} {size a : Nat} (hm : m.complete size = true) (ha : a < size) :
    ∃ b, m.at? a = some b := by
  simp only [Memory.complete, Memory.wf, Bool.and_eq_true, List.all_eq_true, decide_eq_true_eq] at hm
  obtain ⟨⟨hrising, hlt⟩, hlen⟩ := hm
  exact Memory.exists_at?_of_risingFrom hrising hlt (by omega) (Nat.zero_le a) ha

/-- R292, U3: the host's read of a buffer `m` that is readable when `flag` is 1, and then wholly written. -/
theorem hostBufRead_of_flag {s : State} {S : Space} {m : Memory} {flag : Bool} {a : Nat}
    (ha : a < spaceSize s.params S) (hbyte : s.bufByte? S a = if flag then m.at? a else none)
    (hall : flag = true → m.complete (spaceSize s.params S) = true) :
    if flag then ∃ b, m.at? a = some b ∧
      hostBufRead S a s = .next { s with host := { s.host with answer := .byte b } }
    else hostBufRead S a s = .refused (.outputNeverWritten S) := by
  cases flag with
  | false => exact hostBufRead_of_none ha hbyte
  | true =>
    obtain ⟨b, hb⟩ := Memory.exists_at?_of_complete (hall rfl) ha
    exact ⟨b, hb, hostBufRead_of_some ha (hbyte.trans hb)⟩

/-- Settles O23: by the invariant OUT and RGBAOUT are wholly written once their flags are 1. -/
theorem outputReadNeedsValidFlag : Obligations.OutputReadNeedsValidFlag :=
  fun _ _ hs => ⟨fun ha => hostBufRead_of_flag ha rfl hs.outAll, fun ha => hostBufRead_of_flag ha rfl hs.rgbaAll⟩

/-! ### The invariant and the writes of a command -/

/-- R262: an error entry keeps the invariant, because it sets ERR_STICKY. -/
theorem State.Inv.raise {s : State} (h : s.Inv) (e : ErrCode) : (s.raise e).Inv :=
  { h with idle := nofun, error := fun _ _ => rfl }

/-- R261: completion keeps the invariant. -/
theorem State.Inv.complete {s : State} (h : s.Inv) : s.complete.Inv :=
  { h with idle := nofun, error := nofun }

/-! A command that writes a buffer sets its valid flag while STATE may still be IDLE, which the invariant forbids. What
the writes keep is therefore that the state, once completed, meets it. -/

section
variable {s : State} (h : s.complete.Inv)
include h

theorem State.Inv.setPal (P : Palette) : (s.setPal P).complete.Inv :=
  { h with idle := nofun, error := nofun }

theorem State.Inv.setIdx (x : IdxRaster) : (s.setIdx x).complete.Inv :=
  { h with idle := nofun, error := nofun }

theorem State.Inv.setWork {k : Work} (hk : k.wf = true) : (s.setWork k).complete.Inv :=
  { h with work := hk, idle := nofun, error := nofun }

theorem State.Inv.setOut (f : Nat → Byte) : (s.setOut (Memory.full 32034 f)).complete.Inv :=
  { h with
    out := Memory.wf_full _ f
    outAll := fun _ => Memory.complete_full _ f
    idle := nofun
    error := nofun }

theorem State.Inv.setRgba (n : Numeric) (P : Palette) (x : IdxRaster) :
    (s.setRgba (rgbaRaster n P x)).complete.Inv :=
  { h with
    rgbaout := Memory.wf_full _ _
    rgbaAll := fun _ => Memory.complete_full _ _
    idle := nofun
    error := nofun }

end

theorem State.encodedWork_wf (s : State) : s.encodedWork.wf = true := by
  unfold State.encodedWork
  split
  · exact State.ditheredWork_wf s.loadedWork_wf
  · exact s.loadedWork_wf

/-- A command's pseudocode that raises nothing keeps the invariant, once the command has completed. -/
theorem bodyOf_keeps_inv {i : Instr} {s t : State} (hs : s.Inv) (h : bodyOf i s = .ok t) : t.complete.Inv := by
  have hc := hs.complete
  cases i with
  | nop | reset => cases h; exact hc
  | defpal | setpal => cases h; exact hc.setPal _
  | buildpal | extpal => cases eq_of_ite_error_eq_ok h; exact hc.setPal _
  | selpal => rw [selpalBody_eq_ok h]; exact hc.setPal _
  | loadwork => cases eq_of_ite_error_eq_ok h; exact hc.setWork s.loadedWork_wf
  | dither =>
    cases eq_of_ite_error_eq_ok (eq_of_ite_error_eq_ok h)
    exact hc.setWork (State.ditheredWork_wf hs.work)
  | map => cases eq_of_ite_error_eq_ok h; exact hc.setIdx _
  | pack => cases eq_of_ite_error_eq_ok h; exact hc.setOut _
  | preview => cases eq_of_ite_error_eq_ok h; exact hc.setRgba _ _ _
  | encode =>
    rw [(encodeBody_eq_ok h).2]
    exact ((((hc.setPal _).setWork s.encodedWork_wf).setIdx _).setOut _).setRgba _ _ _
  | decode => cases eq_of_ite_error_eq_ok h; exact ((hc.setPal _).setIdx _).setRgba _ _ _

/-! ### The invariant and the moves of the host -/

theorem exec_keeps_inv {i : Instr} {s t : State} (hs : s.Inv) (h : exec i s = .next t) : t.Inv := by
  by_cases hi : i = .reset
  · subst hi
    cases h; exact State.resetMachine_inv hs.params
  · rw [exec_body hi] at h
    rcases command_next h with ⟨u, hu, rfl⟩ | ⟨e, -, rfl⟩
    · exact bodyOf_keeps_inv hs hu
    · exact hs.raise e

theorem issue_keeps_inv {v : Word} {s t : State} (hs : s.Inv) (h : issue v s = .next t) : t.Inv := by
  rcases issue_next h with ⟨i, -, hi⟩ | rfl
  · exact exec_keeps_inv hs hi
  · exact hs.raise .badOpcode

theorem hostRegWrite_keeps_inv {n : Nat} {v : Word} {s t : State} (hs : s.Inv) (h : hostRegWrite n v s = .next t) :
    t.Inv := by
  rcases hostRegWrite_next h with ⟨-, hv⟩ | rfl | rfl | rfl | rfl | rfl | ⟨i, rfl⟩
  · exact issue_keeps_inv hs hv
  all_goals exact { hs with }

/-- R71, R72: a host write of a byte inside the buffer keeps it canonical. -/
theorem hostBufWrite_keeps_inv {S : Space} {a : Nat} {b : Byte} {s t : State} (hs : s.Inv)
    (h : hostBufWrite S a b s = .next t) : t.Inv := by
  obtain ⟨ha, ⟨rfl, rfl⟩ | ⟨rfl, rfl⟩ | ⟨-, rfl⟩⟩ := hostBufWrite_next h
  · exact { hs with src := Memory.wf_put hs.src ha b }
  · exact { hs with pi1in := Memory.wf_put hs.pi1in ha b }
  · exact hs

theorem hostMove_keeps_inv {m : HostMove} {s t : State} (hs : s.Inv) (h : hostMove m s = .next t) : t.Inv := by
  cases m with
  | regRead n =>
    obtain ⟨v, -, rfl⟩ := hostRegRead_next h
    exact { hs with }
  | regWrite n v => exact hostRegWrite_keeps_inv hs h
  | bufRead S a =>
    obtain ⟨b, -, rfl⟩ := hostBufRead_next h
    exact { hs with }
  | bufWrite S a b => exact hostBufWrite_keeps_inv hs h
  | hardReset => exact exec_keeps_inv (i := .reset) hs h

/-- Settles O10: the invariant speaks of no part of the host's side, so taking a pending move keeps it, and the move
does. -/
theorem stepKeepsInvariant : Obligations.StepKeepsInvariant := by
  intro s t hs h
  rcases step_cases s with ⟨-, hstep⟩ | ⟨m, rest, -, hstep⟩
  · rw [hstep] at h
    cases h; exact hs
  · rw [hstep] at h
    have htaking : (s.taking rest).Inv := { hs with }
    exact hostMove_keeps_inv htaking h

end Sys2Proof.Machine
end
